-- ==== Sys2Proof/Word.lean ====
section
/-! DEFINITION. The two word types of the block: the byte that crosses the input and outbound ports (00_scope.md R10) and
the 16-bit word that the attribute word and the state word pack into (10_state.md R27, R29). -/

namespace Sys2Proof

/-- An unsigned byte, 0 to 255 (R10). -/
abbrev Byte := BitVec 8

/-- A 16-bit word; bit 0 is the least significant (R11). -/
abbrev Word := BitVec 16

end Sys2Proof
end

