-- ==== Sys2Proof/Config.lean ====
section
/-! DEFINITION. What is fixed for the life of an instance: the implementation parameters of 00_scope.md R8, with the types
they are built from. The spec has no value that is free while the machine runs (93_implementation_defined.md, opening), so
this file holds no constant without a body; a model takes each parameter as an argument, and a statement about every state
ranges over every parameter, because State carries them (log 1). -/

namespace Sys2Proof

/-- Key identifiers (30_encoding.md R89). `unknown` stands for an identifier outside that closed enumeration, which only a
host that breaks its duty can deliver (60_exceptions.md R265, `BadKey`). -/
inductive KeyIdent where
  | char (b : Byte)
  | up | down | right | left
  | f1 | f2 | f3 | f4 | f5 | f6 | f7 | f8 | f9 | f10 | f11 | f12
  | insert | delete | home | endKey | pageUp | pageDown
  | suspend
  | null
  | unknown (code : Nat)
  deriving DecidableEq, Repr

/-- The modifiers latched by the preceding stage (R88). -/
structure Mods where
  ctrl : Bool
  alt : Bool
  shift : Bool
  caps : Bool
  deriving DecidableEq, Repr

/-- One key event as the keyboard port delivers it (R88). -/
structure KeyEvent where
  key : KeyIdent
  pressed : Bool
  mods : Mods
  deriving DecidableEq, Repr

/-- The two keyboard profiles (10_state.md R36, 46_keyboard.md R245). -/
inductive Profile where
  | minimal
  | rich
  deriving DecidableEq, Repr

/-- The ten DEC private-mode bits, in the order of `STATE` bits 4 to 13 (10_state.md R29). -/
structure Modes where
  lnm : Bool
  ckm : Bool
  anm : Bool
  colm : Bool
  sclm : Bool
  scnm : Bool
  om : Bool
  awm : Bool
  arm : Bool
  inlm : Bool
  deriving DecidableEq, Repr

/-- A finite map from key identifiers to byte strings (00_scope.md R8). -/
abbrev Keymap := List (KeyIdent × List Byte)

/-- The implementation parameters (00_scope.md R8), under the spec's names. -/
structure Params where
  rows : Nat
  cols : Nat
  accCap : Nat
  defaultFg : BitVec 4
  defaultBg : BitVec 4
  decalnChar : Byte
  altcsSet : List Byte
  altcsRejectWritesAttr : Bool
  sharedSaveSlot : Bool
  resetModes : Modes
  keymapMinimal : Keymap
  keymapRich : Keymap
  deriving DecidableEq, Repr

end Sys2Proof
end

