-- ==== Sys2Proof/Machine/Reference.lean ====
section
/-! DEFINITION. The consistency of the parameters (00_scope.md R9; 46_keyboard.md R248) and their reference values (R8; 46_keyboard.md R246,
R247; 42_putchar.md R152). -/

namespace Sys2Proof

/-- Every string of a keyboard profile's table is non-empty (46_keyboard.md R245, R248). -/
def keymapOk (m : Keymap) : Bool :=
  m.all (fun e => !e.2.isEmpty)

/-- The legal parameters: the ranges of R8 that R9 asks a model to enforce, and the non-empty strings of the two keymaps that
46_keyboard.md R248 asks a model to keep (log 1). The other parameters have no illegal value of their type. -/
def Params.ok (p : Params) : Bool :=
  decide (1 ≤ p.rows) && decide (1 ≤ p.cols) && decide (2 ≤ p.accCap) && keymapOk p.keymapMinimal && keymapOk p.keymapRich

/-- Every mode bit 0: the reference value of `RESET_MODES` (R8). -/
def Modes.allClear : Modes :=
  { lnm := false, ckm := false, anm := false, colm := false, sclm := false,
    scnm := false, om := false, awm := false, arm := false, inlm := false }

/-- The reference value of `ALTCS_SET`: j k l m n q t u v w x (42_putchar.md R152). -/
def altcsSetReference : List Byte :=
  [0x6A, 0x6B, 0x6C, 0x6D, 0x6E, 0x71, 0x74, 0x75, 0x76, 0x77, 0x78]

/-- The reference value of `KEYMAP_MINIMAL` (46_keyboard.md R246). -/
def keymapMinimalReference : Keymap :=
  [(.f1, [0x1B, 0x5B, 0x5B, 0x41]),
   (.f2, [0x1B, 0x5B, 0x5B, 0x42]),
   (.f3, [0x1B, 0x5B, 0x5B, 0x43]),
   (.f4, [0x1B, 0x5B, 0x5B, 0x44]),
   (.f5, [0x1B, 0x5B, 0x5B, 0x45])]

/-- The reference value of `KEYMAP_RICH` (46_keyboard.md R247). -/
def keymapRichReference : Keymap :=
  [(.f1, [0x1B, 0x5B, 0x31, 0x31, 0x7E]),
   (.f2, [0x1B, 0x5B, 0x31, 0x32, 0x7E]),
   (.f3, [0x1B, 0x5B, 0x31, 0x33, 0x7E]),
   (.f4, [0x1B, 0x5B, 0x31, 0x34, 0x7E]),
   (.f5, [0x1B, 0x5B, 0x31, 0x35, 0x7E]),
   (.f6, [0x1B, 0x5B, 0x31, 0x37, 0x7E]),
   (.f7, [0x1B, 0x5B, 0x31, 0x38, 0x7E]),
   (.f8, [0x1B, 0x5B, 0x31, 0x39, 0x7E]),
   (.f9, [0x1B, 0x5B, 0x32, 0x30, 0x7E]),
   (.f10, [0x1B, 0x5B, 0x32, 0x31, 0x7E]),
   (.f11, [0x1B, 0x5B, 0x32, 0x33, 0x7E]),
   (.f12, [0x1B, 0x5B, 0x32, 0x34, 0x7E]),
   (.insert, [0x1B, 0x5B, 0x32, 0x7E]),
   (.delete, [0x1B, 0x5B, 0x33, 0x7E]),
   (.home, [0x1B, 0x5B, 0x37, 0x7E]),
   (.endKey, [0x1B, 0x5B, 0x38, 0x7E]),
   (.pageUp, [0x1B, 0x5B, 0x35, 0x7E]),
   (.pageDown, [0x1B, 0x5B, 0x36, 0x7E]),
   (.suspend, [0x1A])]

/-- The reference parameters (00_scope.md R8). -/
def Params.reference : Params :=
  { rows := 25, cols := 80, accCap := 32, defaultFg := 7, defaultBg := 0,
    decalnChar := 0x45, altcsSet := altcsSetReference,
    altcsRejectWritesAttr := true, sharedSaveSlot := false,
    resetModes := Modes.allClear,
    keymapMinimal := keymapMinimalReference, keymapRich := keymapRichReference }

end Sys2Proof
end

