-- ==== Sys2Proof/Machine/State.lean ====
section
/-! DEFINITION. The state of one instance (10_state.md), as plain data, and its value after construction (R37). -/

namespace Sys2Proof.Machine

/-- The attribute word of a cell and of `CUR_ATTR` (10_state.md R27), as the record of its fields; `Attr.toWord` gives the
packing. The reserved bits [15:13], always 0, are no field. -/
structure Attr where
  fg : BitVec 4
  bg : BitVec 4
  bold : Bool
  blink : Bool
  reverse : Bool
  invisible : Bool
  altcs : Bool
  deriving DecidableEq, Repr

/-- A cell of the Screen Buffer (R24). -/
structure Cell where
  ch : Byte
  attr : Attr
  deriving DecidableEq, Repr

/-- The grid as data: the cells that differ from the reset cell, keyed by their row-major index (20_memory.md R50), the
keys strictly rising (`Memory.wf`). -/
abbrev Memory := List (Nat × Cell)

/-- The state word `STATE` (R29), as the record of its fields; `StateWord.toWord` gives the packing. The reserved bit 15,
always 0, is no field. -/
structure StateWord where
  esc : Bool
  altcs : Bool
  curinv : Bool
  short : Bool
  modes : Modes
  savedAltcs : Bool
  deriving DecidableEq, Repr

/-- The Rendering Sink events (60_exceptions.md R266). -/
inductive SinkEvent where
  | invCell (r c : Nat)
  | invScreen
  | invCursor
  | bell
  deriving DecidableEq, Repr

/-- What the host does at the ports (60_exceptions.md R269), one call per step; `render` of a buffer is the calls `byte` of
its bytes (40_parser_control.md R120). -/
inductive HostCall where
  /-- one byte at `IN` -/
  | byte (b : Byte)
  /-- one key event at `KEY` -/
  | key (ev : KeyEvent)
  /-- a new level at `PROFILE` (10_state.md R36) -/
  | selectProfile (p : Profile)
  /-- `render` with a null or invalid buffer (60_exceptions.md R265) -/
  | invalidBuffer
  /-- a step started while another step of the same instance is running (60_exceptions.md R265, R268) -/
  | reentrant
  deriving DecidableEq, Repr

/-- The faults. The block has none (60_exceptions.md R260). -/
inductive Fault where
  /-- Raised by every operation that would read or write a cell outside the grid (20_memory.md R50, R53), which a state
  that keeps the ranges of R25 and R26 never does. Safe: the machine stops where the spec describes no access. -/
  | outsideGrid
  deriving DecidableEq, Repr

/-- The refusals (60_exceptions.md R265). Safe, all of them: no next state is claimed. -/
inductive Refusal where
  /-- Raised by `exec` for an instruction that has no meaning yet (no arm does). -/
  | notModelled (mnemonic : String)
  /-- Raised by a step that serves `HostCall.invalidBuffer`. -/
  | badBuffer
  /-- Raised by a step that serves `HostCall.reentrant`. -/
  | reentrant
  /-- Raised by `construct`, and by a step of a state, whose parameters break R9 (or hold a keymap with an empty
  string, 46_keyboard.md R248). -/
  | badParams
  /-- Raised by a step that serves a key event whose identifier is outside R89. -/
  | badKey
  deriving DecidableEq, Repr

/-- The state of one instance, under the spec's names (10_state.md R23 to R36). -/
structure State where
  /-- the implementation parameters (00_scope.md R8), fixed for the life of the instance -/
  params : Params
  /-- `G` (R23) -/
  grid : Memory
  /-- `ROW` (R25) -/
  row : Nat
  /-- `COL` (R25); the number of columns is the pending-wrap column -/
  col : Nat
  /-- `SCROLL_MIN` (R26) -/
  scrollMin : Nat
  /-- `SCROLL_MAX` (R26) -/
  scrollMax : Nat
  /-- `CUR_ATTR` (R28) -/
  curAttr : Attr
  /-- `STATE` (R29) -/
  word : StateWord
  /-- `ACC[0 .. ACC_LEN-1]` (R30); `ACC_LEN` is its length -/
  acc : List Byte
  /-- `SAVE_ROW` (R32) -/
  saveRow : Nat
  /-- `SAVE_COL` (R32) -/
  saveCol : Nat
  /-- `SAVE_ATTR` (R32) -/
  saveAttr : Attr
  /-- `CSR_ROW` (R33) -/
  csrRow : Nat
  /-- `CSR_COL` (R33) -/
  csrCol : Nat
  /-- `SINK`, oldest event first (R34) -/
  sink : List SinkEvent
  /-- `OUT`, oldest byte first (R34) -/
  out : List Byte
  /-- `KBD_PROFILE` (R36) -/
  profile : Profile
  /-- the host's calls not yet served, oldest first (the model's own field, log 5) -/
  calls : List HostCall
  deriving DecidableEq, Repr

/-- The outcome of a step of this machine. -/
abbrev Out := Host.Outcome State Fault Refusal

/-- `NORMAL` (10_state.md R28). -/
def normalAttr (p : Params) : Attr :=
  { fg := p.defaultFg, bg := p.defaultBg, bold := false, blink := false,
    reverse := false, invisible := false, altcs := false }

/-- What a cell that nothing has written reads as: `(0x20, NORMAL)` (20_memory.md R54, 10_state.md R37). -/
def resetCell (p : Params) : Cell :=
  { ch := 0x20, attr := normalAttr p }

/-- `STATE` after construction (R37). -/
def resetWord (p : Params) : StateWord :=
  { esc := false, altcs := false, curinv := false, short := false,
    modes := p.resetModes, savedAltcs := false }

/-- The state after construction with parameters `p` and the host's profile `k` (R37; 70_reset_and_hazards.md R280). -/
def State.construct (p : Params) (k : Profile) : State :=
  { params := p
    grid := []
    row := 0
    col := 0
    scrollMin := 0
    scrollMax := p.rows - 1
    curAttr := normalAttr p
    word := resetWord p
    acc := []
    saveRow := 0
    saveCol := 0
    saveAttr := normalAttr p
    csrRow := 0
    csrCol := 0
    sink := []
    out := []
    profile := k
    calls := [] }

/-- The machine right after reset: the instance constructed with the reference parameters and profile (R8, R36, R37). -/
def State.reset : State :=
  State.construct Params.reference .minimal

end Sys2Proof.Machine
end

