-- ==== Sys2Proof/Machine/Ops.lean ====
section
/-! DEFINITION. The operations the instructions are built from: the grid primitives of 20_memory.md, the accumulator
operations of 40_parser_control.md, the output streams (00_scope.md R14) and the named updates of the registers. The block
takes no exception and returns from none (60_exceptions.md R260), so there is no such operation here. -/

namespace Sys2Proof.Machine

/-- Run `f` on the next state, if there is one. -/
def andThen (o : Out) (f : State → Out) : Out :=
  match o with
  | .next s => f s
  | .fault r => .fault r
  | .refused r => .refused r

/-! ### The grid as data -/

/-- The cell at index `i`, `d` where none is listed. -/
def Memory.get (d : Cell) (i : Nat) : Memory → Cell
  | [] => d
  | (k, v) :: rest => if k = i then v else Memory.get d i rest

/-- Insert an entry before the first entry with a larger key. -/
def Memory.insert (i : Nat) (v : Cell) : Memory → Memory
  | [] => [(i, v)]
  | (k, w) :: rest => if i < k then (i, v) :: (k, w) :: rest else (k, w) :: Memory.insert i v rest

/-- Store `v` at index `i`; storing what an unlisted cell reads as removes the entry. -/
def Memory.set (d : Cell) (i : Nat) (v : Cell) (m : Memory) : Memory :=
  let rest := m.filter (fun e => e.1 != i)
  if v = d then rest else Memory.insert i v rest

/-- The grid of `n` cells whose cell at index `i` is `f i`. -/
def Memory.tabulate (d : Cell) (n : Nat) (f : Nat → Cell) : Memory :=
  (List.range n).filterMap (fun i => if f i = d then none else some (i, f i))

/-- The keys rise strictly. -/
def Memory.rising : Memory → Bool
  | [] => true
  | [_] => true
  | (k, _) :: (l, w) :: rest => decide (k < l) && Memory.rising ((l, w) :: rest)

/-- The canonical form of a grid of `n` cells: keys strictly rising and below `n`, no entry equal to what an unlisted cell
reads as. -/
def Memory.wf (d : Cell) (n : Nat) (m : Memory) : Bool :=
  Memory.rising m && m.all (fun e => decide (e.1 < n) && decide (e.2 ≠ d))

/-! ### Grid access (20_memory.md R50 to R54) -/

/-- The number of cells. -/
def State.size (s : State) : Nat :=
  s.params.rows * s.params.cols

/-- `(r, c)` is a grid address (R50). -/
def State.inGrid (s : State) (r c : Nat) : Bool :=
  decide (r < s.params.rows) && decide (c < s.params.cols)

/-- The row-major index of `(r, c)` (R50). -/
def State.index (s : State) (r c : Nat) : Nat :=
  r * s.params.cols + c

/-- The stored cell at `(r, c)`, for an address in the grid. -/
def State.rawCell (s : State) (r c : Nat) : Cell :=
  Memory.get (resetCell s.params) (s.index r c) s.grid

/-- `MemRead((r, c))` (R54); `none` outside the grid. -/
def State.cellAt (s : State) (r c : Nat) : Option Cell :=
  if s.inGrid r c then some (s.rawCell r c) else none

/-- Replace the grid. -/
def State.setGrid (s : State) (g : Memory) : State :=
  { s with grid := g }

/-- `MemWrite((r, c), v)` (R54). -/
def memWrite (r c : Nat) (v : Cell) (s : State) : Out :=
  if s.inGrid r c then
    .next (s.setGrid (Memory.set (resetCell s.params) (s.index r c) v s.grid))
  else .fault .outsideGrid

/-- Write the whole grid at once: the cell at `(r, c)` becomes `f r c`. -/
def State.fillGrid (s : State) (f : Nat → Nat → Cell) : State :=
  s.setGrid (Memory.tabulate (resetCell s.params) s.size
    (fun i => f (i / s.params.cols) (i % s.params.cols)))

/-- `Blank()`: a space with the current attribute and `ALTCS = 0` (R55). -/
def State.blank (s : State) : Cell :=
  { ch := 0x20, attr := { s.curAttr with altcs := false } }

/-- `CC = min(COL, COLS-1)`, the cursor column read for indexing (R53). -/
def State.cc (s : State) : Nat :=
  min s.col (s.params.cols - 1)

/-! ### Named updates of the registers -/

/-- `ROW <- r; COL <- c`. -/
def State.setCursor (s : State) (r c : Nat) : State :=
  { s with row := r, col := c }

/-- `SCROLL_MIN <- a; SCROLL_MAX <- b`. -/
def State.setRegion (s : State) (a b : Nat) : State :=
  { s with scrollMin := a, scrollMax := b }

/-- `CUR_ATTR <- a`. -/
def State.setCurAttr (s : State) (a : Attr) : State :=
  { s with curAttr := a }

/-- `STATE <- w`, used to write the fields that an instruction's rule names. -/
def State.setWord (s : State) (w : StateWord) : State :=
  { s with word := w }

/-- `STATE.ESC <- e; ACC <- l; ACC_LEN <- |l|`. -/
def State.setParser (s : State) (e : Bool) (l : List Byte) : State :=
  { s with word := { s.word with esc := e }, acc := l }

/-- `STATE.ALTCS <- b`. -/
def State.setAltcs (s : State) (b : Bool) : State :=
  s.setWord { s.word with altcs := b }

/-- `STATE.CURINV <- b`. -/
def State.setCurinv (s : State) (b : Bool) : State :=
  s.setWord { s.word with curinv := b }

/-- `STATE.SHORT <- b`. -/
def State.setShort (s : State) (b : Bool) : State :=
  s.setWord { s.word with short := b }

/-- Write the mode bits of `STATE`. -/
def State.setModes (s : State) (m : Modes) : State :=
  s.setWord { s.word with modes := m }

/-- The DECSC slot takes a position, an attribute and an alternate-charset bit (10_state.md R32). -/
def State.setSave (s : State) (r c : Nat) (a : Attr) (b : Bool) : State :=
  { s with saveRow := r, saveCol := c, saveAttr := a, word := { s.word with savedAltcs := b } }

/-- The DECSC slot takes a position only (43_csi.md R186, shared slot). -/
def State.setSavePos (s : State) (r c : Nat) : State :=
  { s with saveRow := r, saveCol := c }

/-- The cursor-only slot takes a position (10_state.md R33). -/
def State.setCsr (s : State) (r c : Nat) : State :=
  { s with csrRow := r, csrCol := c }

/-- `KBD_PROFILE` takes the host's level (10_state.md R36). -/
def State.setProfile (s : State) (p : Profile) : State :=
  { s with profile := p }

/-- The pending calls of the host. -/
def State.setCalls (s : State) (l : List HostCall) : State :=
  { s with calls := l }

/-- `emit` each event of the list, in order (00_scope.md R14). -/
def State.emitAll (s : State) (es : List SinkEvent) : State :=
  { s with sink := s.sink ++ es }

/-- `emit E` (R14). -/
def State.emit (s : State) (e : SinkEvent) : State :=
  s.emitAll [e]

/-- `out(bs)` (R14). -/
def State.outBytes (s : State) (bs : List Byte) : State :=
  { s with out := s.out ++ bs }

/-! ### Accumulator (40_parser_control.md R103, R104) -/

/-- `Cancel()` (R103). -/
def cancel (s : State) : State :=
  s.setParser false []

/-- `Cancel()` after an operation, on its next state (41_escape.md R131). -/
def thenCancel (o : Out) : Out :=
  andThen o (fun s => .next (cancel s))

/-- The first two lines of `Append(b)` (R104). -/
def push (b : Byte) (s : State) : State :=
  s.setParser s.word.esc (s.acc ++ [b])

/-- The last line of `Append(b)`: a sequence still open at `ACC_CAP` bytes is cancelled (R104). -/
def boundCheck (s : State) : State :=
  if s.word.esc && decide (s.acc.length = s.params.accCap) then cancel s else s

/-- `Append(b)` for a byte that leaves the sequence open (R104). -/
def accumulate (b : Byte) (s : State) : State :=
  boundCheck (push b s)

/-! ### Region shifts, index and reverse index (20_memory.md R56 to R58) -/

/-- `ShiftUp(top, bot, n)`, the whole region computed from the old one at once (R56). -/
def shiftUp (top bot n : Nat) (s : State) : Out :=
  if top ≤ bot ∧ bot < s.params.rows then
    let k := min n (bot - top + 1)
    .next (s.fillGrid (fun r c =>
      if r < top ∨ bot < r then s.rawCell r c
      else if r + k ≤ bot then s.rawCell (r + k) c
      else s.blank))
  else .fault .outsideGrid

/-- `ShiftDown(top, bot, n)`, the whole region computed from the old one at once (R56). -/
def shiftDown (top bot n : Nat) (s : State) : Out :=
  if top ≤ bot ∧ bot < s.params.rows then
    let k := min n (bot - top + 1)
    .next (s.fillGrid (fun r c =>
      if r < top ∨ bot < r then s.rawCell r c
      else if top + k ≤ r then s.rawCell (r - k) c
      else s.blank))
  else .fault .outsideGrid

/-- `Index()` (R57). -/
def index (s : State) : Out :=
  if s.row = s.scrollMax then
    andThen (shiftUp s.scrollMin s.scrollMax 1 s) (fun t => .next (t.emit .invScreen))
  else
    .next ((s.setCursor (if s.row + 1 < s.params.rows then s.row + 1 else s.row) s.col).emit .invCursor)

/-- `ReverseIndex()` (R58). -/
def reverseIndex (s : State) : Out :=
  if s.row = s.scrollMin then
    andThen (shiftDown s.scrollMin s.scrollMax 1 s) (fun t => .next (t.emit .invScreen))
  else
    .next ((s.setCursor (if 0 < s.row then s.row - 1 else s.row) s.col).emit .invCursor)

/-! ### Erasing (20_memory.md R59) -/

/-- The `InvCell` event of the cell with row-major index `i`. -/
def State.cellEvent (s : State) (i : Nat) : SinkEvent :=
  .invCell (i / s.params.cols) (i % s.params.cols)

/-- `EraseCells` of the cells from `(r1, c1)` to `(r2, c2)` in row-major order, both ends inclusive (R59). -/
def eraseCells (r1 c1 r2 c2 : Nat) (s : State) : Out :=
  if s.inGrid r1 c1 && s.inGrid r2 c2 then
    let lo := s.index r1 c1
    let hi := s.index r2 c2 + 1
    .next ((s.fillGrid (fun r c =>
      if lo ≤ s.index r c ∧ s.index r c < hi then s.blank else s.rawCell r c)).emitAll
        ((List.range' lo (hi - lo)).map s.cellEvent))
  else .fault .outsideGrid

/-! ### Host interface (60_exceptions.md R265 to R269) -/

/-- Construction of an instance: refused if the parameters break 00_scope.md R9 or 46_keyboard.md R248 (R265, `BadParams`;
log 1). -/
def construct (p : Params) (k : Profile) : Out :=
  if p.ok then .next (State.construct p k) else .refused .badParams

/-- `render(buf)` as the calls it makes; `none` is a null or invalid buffer (40_parser_control.md R120). -/
def render : Option (List Byte) → List HostCall
  | none => [.invalidBuffer]
  | some buf => buf.map .byte

/-- What the `VIEW` port exposes between steps (R267): the grid cell at any address, `ROW`, `COL` and `STATE`. -/
structure View where
  cells : List Cell
  row : Nat
  col : Nat
  word : StateWord
  deriving DecidableEq, Repr

/-- The view of a state: the cells in row-major order (R267). -/
def State.view (s : State) : View :=
  { cells := (List.range s.size).map (fun i => Memory.get (resetCell s.params) i s.grid)
    row := s.row
    col := s.col
    word := s.word }

/-- The column at which a backend draws the cursor marker (R267). -/
def View.markerCol (v : View) (cols : Nat) : Nat :=
  min v.col (cols - 1)

end Sys2Proof.Machine
end

