-- ==== Sys2Proof/Machine/Control.lean ====
section
/-! DEFINITION. NUL and the control characters (40_parser_control.md R101, R102, R106 to R119). -/

namespace Sys2Proof.Machine

/-- NUL is dropped in every state (R101). -/
def execNul (s : State) : Out :=
  .next s

/-- The unassigned C0 byte 0x01 does nothing (R119). -/
def execC0Nop01 (s : State) : Out :=
  .next s

/-- The unassigned C0 byte 0x02 does nothing (R119). -/
def execC0Nop02 (s : State) : Out :=
  .next s

/-- The unassigned C0 byte 0x03 does nothing (R119). -/
def execC0Nop03 (s : State) : Out :=
  .next s

/-- The unassigned C0 byte 0x04 does nothing (R119). -/
def execC0Nop04 (s : State) : Out :=
  .next s

/-- The unassigned C0 byte 0x05 does nothing (R119). -/
def execC0Nop05 (s : State) : Out :=
  .next s

/-- The unassigned C0 byte 0x06 does nothing (R119). -/
def execC0Nop06 (s : State) : Out :=
  .next s

/-- The unassigned C0 byte 0x10 does nothing (R119). -/
def execC0Nop10 (s : State) : Out :=
  .next s

/-- The unassigned C0 byte 0x11 does nothing (R119). -/
def execC0Nop11 (s : State) : Out :=
  .next s

/-- The unassigned C0 byte 0x12 does nothing (R119). -/
def execC0Nop12 (s : State) : Out :=
  .next s

/-- The unassigned C0 byte 0x13 does nothing (R119). -/
def execC0Nop13 (s : State) : Out :=
  .next s

/-- The unassigned C0 byte 0x14 does nothing (R119). -/
def execC0Nop14 (s : State) : Out :=
  .next s

/-- The unassigned C0 byte 0x15 does nothing (R119). -/
def execC0Nop15 (s : State) : Out :=
  .next s

/-- The unassigned C0 byte 0x16 does nothing (R119). -/
def execC0Nop16 (s : State) : Out :=
  .next s

/-- The unassigned C0 byte 0x17 does nothing (R119). -/
def execC0Nop17 (s : State) : Out :=
  .next s

/-- The unassigned C0 byte 0x19 does nothing (R119). -/
def execC0Nop19 (s : State) : Out :=
  .next s

/-- The unassigned C0 byte 0x1C does nothing (R119). -/
def execC0Nop1C (s : State) : Out :=
  .next s

/-- The unassigned C0 byte 0x1D does nothing (R119). -/
def execC0Nop1D (s : State) : Out :=
  .next s

/-- The unassigned C0 byte 0x1E does nothing (R119). -/
def execC0Nop1E (s : State) : Out :=
  .next s

/-- The unassigned C0 byte 0x1F does nothing (R119). -/
def execC0Nop1F (s : State) : Out :=
  .next s

/-- BEL (R106). -/
def execBel (s : State) : Out :=
  .next (s.emit .bell)

/-- BS (R107). -/
def execBs (s : State) : Out :=
  .next ((s.setCursor s.row (if 0 < s.col then s.col - 1 else s.col)).emit .invCursor)

/-- HT: the next multiple of 8, then the clamp (R108). -/
def execHt (s : State) : Out :=
  .next ((s.setCursor s.row (min ((s.col / 8 + 1) * 8) (s.params.cols - 1))).emit .invCursor)

/-- The pseudocode of LF, VT and FF (R109). -/
def lineFeed (s : State) : Out :=
  index (if s.word.modes.lnm then s.setCursor s.row 0 else s)

/-- LF (R109). -/
def execLf (s : State) : Out :=
  lineFeed s

/-- VT, exactly LF (R110). -/
def execVt (s : State) : Out :=
  lineFeed s

/-- FF, exactly LF (R111). -/
def execFf (s : State) : Out :=
  lineFeed s

/-- CR (R112). -/
def execCr (s : State) : Out :=
  .next ((s.setCursor s.row 0).emit .invCursor)

/-- SO (R113). -/
def execSo (s : State) : Out :=
  .next (s.setAltcs true)

/-- SI (R114). -/
def execSi (s : State) : Out :=
  .next (s.setAltcs false)

/-- CAN (R117). -/
def execCan (s : State) : Out :=
  .next (cancel s)

/-- SUB, exactly CAN (R118). -/
def execSub (s : State) : Out :=
  .next (cancel s)

/-- ESC (R116). -/
def execEsc (s : State) : Out :=
  .next (s.setParser true [])

/-- CSI8 seeds the accumulator with '[' (R115). -/
def execCsi8 (s : State) : Out :=
  .next (s.setParser true [0x5B])

/-- BEL that ends an OSC: `Cancel()`, no `Bell` (R102). -/
def execOscEnd (s : State) : Out :=
  .next (cancel s)

end Sys2Proof.Machine
end

