-- ==== Sys2Proof/Machine/Bytes.lean ====
section
/-! DEFINITION. The byte classes of 30_encoding.md R70 and R75, and the lists of finals and verbs that have a meaning
(R72, R84, R85). -/

namespace Sys2Proof

/-- A byte routed to the Control-Character Handler: 0x01 to 0x1F, or 0x9B (R70; 40_parser_control.md R100). -/
def isControl (b : Byte) : Bool :=
  (decide (0x01 ≤ b.toNat) && decide (b.toNat ≤ 0x1F)) || b == 0x9B

/-- A graphic byte: 0x20 to 0xFF except 0x9B (R70). -/
def isGraphic (b : Byte) : Bool :=
  decide (0x20 ≤ b.toNat) && b != 0x9B

/-- The final class of a CSI sequence (R75): `@`, the capital letters, the grave accent, the small letters. -/
def isFinal (b : Byte) : Bool :=
  (decide (0x40 ≤ b.toNat) && decide (b.toNat ≤ 0x5A)) ||
    (decide (0x60 ≤ b.toNat) && decide (b.toNat ≤ 0x7A))

/-- A decimal digit byte, '0' to '9'. -/
def isDigit (b : Byte) : Bool :=
  decide (0x30 ≤ b.toNat) && decide (b.toNat ≤ 0x39)

/-- A byte of the parameter text: a digit or ';' (R74, R80). -/
def isParamByte (b : Byte) : Bool :=
  isDigit b || b == 0x3B

/-- The first bytes after ESC that are something else than an unrecognised escape: D E M 7 8 # ( ) [ ]
(41_escape.md R131, R143). -/
def escapeLeads : List Byte :=
  [0x44, 0x45, 0x4D, 0x37, 0x38, 0x23, 0x28, 0x29, 0x5B, 0x5D]

/-- The CSI verbs with a meaning (R85; 43_csi.md R160). -/
def csiVerbs : List Byte :=
  [0x6D, 0x68, 0x6C, 0x4A, 0x48, 0x66, 0x41, 0x42, 0x43, 0x44, 0x45, 0x46, 0x47,
   0x65, 0x61, 0x64, 0x60, 0x4B, 0x40, 0x50, 0x4C, 0x4D, 0x58, 0x72, 0x73, 0x75]

/-- The SGR parameter values with a meaning (R86). -/
def sgrValues : List Nat :=
  [0, 1, 2, 4, 5, 7, 8, 10, 11, 22, 24, 25, 27, 28, 30, 31, 32, 33, 34, 35, 36, 37, 39,
   40, 41, 42, 43, 44, 45, 46, 47, 49]

/-- The SM parameter values with a meaning (R86). -/
def smValues : List Nat :=
  [1, 2, 3, 4, 5, 6, 7, 8, 9, 20, 25]

/-- An identifier of the closed enumeration of R89 (`unknown` is the one that is not). -/
def isKnownKey : KeyIdent → Bool
  | .unknown _ => false
  | _ => true

end Sys2Proof
end

