-- ==== Sys2Proof/Syntax.lean ====
section
/-! DEFINITION. The instructions: one constructor per row of spec/opcode_table.json, in the table's order, and the units
of encoding they are read from (30_encoding.md R71). Rows of several levels stand side by side, as in the table: a byte or
an escape sequence, a CSI command with its parameter list (R80), one parameter value inside SGR, SM or RM (format
`F-CSI-param`), and a key event (format `F-KEY`). -/

namespace Sys2Proof

/-- The instructions of spec/opcode_table.json. The parameter list of a CSI command is what `ParseCSI` gives (R80). -/
inductive Instr where
  /-- NUL. R101: byte 0x00. -/
  | nul
  /-- C0-NOP-01. R119: unassigned C0 byte 0x01. -/
  | c0Nop01
  /-- C0-NOP-02. R119: unassigned C0 byte 0x02. -/
  | c0Nop02
  /-- C0-NOP-03. R119: unassigned C0 byte 0x03. -/
  | c0Nop03
  /-- C0-NOP-04. R119: unassigned C0 byte 0x04. -/
  | c0Nop04
  /-- C0-NOP-05. R119: unassigned C0 byte 0x05. -/
  | c0Nop05
  /-- C0-NOP-06. R119: unassigned C0 byte 0x06. -/
  | c0Nop06
  /-- BEL. R106: byte 0x07. -/
  | bel
  /-- BS. R107: byte 0x08. -/
  | bs
  /-- HT. R108: byte 0x09. -/
  | ht
  /-- LF. R109: byte 0x0A. -/
  | lf
  /-- VT. R110: byte 0x0B. -/
  | vt
  /-- FF. R111: byte 0x0C. -/
  | ff
  /-- CR. R112: byte 0x0D. -/
  | cr
  /-- SO. R113: byte 0x0E. -/
  | so
  /-- SI. R114: byte 0x0F. -/
  | si
  /-- C0-NOP-10. R119: unassigned C0 byte 0x10. -/
  | c0Nop10
  /-- C0-NOP-11. R119: unassigned C0 byte 0x11. -/
  | c0Nop11
  /-- C0-NOP-12. R119: unassigned C0 byte 0x12. -/
  | c0Nop12
  /-- C0-NOP-13. R119: unassigned C0 byte 0x13. -/
  | c0Nop13
  /-- C0-NOP-14. R119: unassigned C0 byte 0x14. -/
  | c0Nop14
  /-- C0-NOP-15. R119: unassigned C0 byte 0x15. -/
  | c0Nop15
  /-- C0-NOP-16. R119: unassigned C0 byte 0x16. -/
  | c0Nop16
  /-- C0-NOP-17. R119: unassigned C0 byte 0x17. -/
  | c0Nop17
  /-- CAN. R117: byte 0x18. -/
  | can
  /-- C0-NOP-19. R119: unassigned C0 byte 0x19. -/
  | c0Nop19
  /-- SUB. R118: byte 0x1A. -/
  | sub
  /-- ESC. R116: byte 0x1B. -/
  | esc
  /-- C0-NOP-1C. R119: unassigned C0 byte 0x1C. -/
  | c0Nop1C
  /-- C0-NOP-1D. R119: unassigned C0 byte 0x1D. -/
  | c0Nop1D
  /-- C0-NOP-1E. R119: unassigned C0 byte 0x1E. -/
  | c0Nop1E
  /-- C0-NOP-1F. R119: unassigned C0 byte 0x1F. -/
  | c0Nop1F
  /-- CSI8. R115: byte 0x9B. -/
  | csi8
  /-- OSC-END. R102: byte 0x07 while an OSC is in progress. -/
  | oscEnd
  /-- PRINT. R150: a graphic byte in Normal state. -/
  | print (b : Byte)
  /-- IND. R132: ESC D. -/
  | ind
  /-- NEL. R134: ESC E. -/
  | nel
  /-- RI. R133: ESC M. -/
  | ri
  /-- DECSC. R135: ESC 7. -/
  | decsc
  /-- DECRC. R136: ESC 8. -/
  | decrc
  /-- DECALN. R137: ESC # 8. -/
  | decaln
  /-- ESC-HASH-OTHER. R138: ESC # F with F not 8; `none` while F has not arrived. -/
  | escHashOther (f : Option Byte)
  /-- SCS-G0. R139: ESC ( F; `none` while F has not arrived. -/
  | scsG0 (f : Option Byte)
  /-- SCS-G1. R140: ESC ) F; `none` while F has not arrived. -/
  | scsG1 (f : Option Byte)
  /-- CSI. R141: ESC [ while no final-class byte has arrived; `none` is the introducer itself, `some b` a body byte b. -/
  | csi (b : Option Byte)
  /-- OSC. R142: ESC ] and its payload; `none` is the introducer itself, `some t` a payload byte t. -/
  | osc (t : Option Byte)
  /-- ESC-UNRECOGNISED. R143: ESC F for any other F. -/
  | escUnrecognised (f : Byte)
  /-- SGR. R200: CSI with verb 0x6D. -/
  | sgr (ps : List Nat)
  /-- SM. R220: CSI with verb 0x68. -/
  | sm (ps : List Nat)
  /-- RM. R227: CSI with verb 0x6C. -/
  | rm (ps : List Nat)
  /-- ED. R165: CSI with verb 0x4A. -/
  | ed (ps : List Nat)
  /-- CUP. R166: CSI with verb 0x48. -/
  | cup (ps : List Nat)
  /-- HVP. R167: CSI with verb 0x66. -/
  | hvp (ps : List Nat)
  /-- CUU. R168: CSI with verb 0x41. -/
  | cuu (ps : List Nat)
  /-- CUD. R169: CSI with verb 0x42. -/
  | cud (ps : List Nat)
  /-- CUF. R170: CSI with verb 0x43. -/
  | cuf (ps : List Nat)
  /-- CUB. R171: CSI with verb 0x44. -/
  | cub (ps : List Nat)
  /-- CNL. R172: CSI with verb 0x45. -/
  | cnl (ps : List Nat)
  /-- CPL. R173: CSI with verb 0x46. -/
  | cpl (ps : List Nat)
  /-- CHA. R174: CSI with verb 0x47. -/
  | cha (ps : List Nat)
  /-- VPR. R175: CSI with verb 0x65. -/
  | vpr (ps : List Nat)
  /-- HPR. R176: CSI with verb 0x61. -/
  | hpr (ps : List Nat)
  /-- VPA. R177: CSI with verb 0x64. -/
  | vpa (ps : List Nat)
  /-- HPA. R178: CSI with verb 0x60. -/
  | hpa (ps : List Nat)
  /-- EL. R179: CSI with verb 0x4B. -/
  | el (ps : List Nat)
  /-- ICH. R180: CSI with verb 0x40. -/
  | ich (ps : List Nat)
  /-- DCH. R181: CSI with verb 0x50. -/
  | dch (ps : List Nat)
  /-- IL. R182: CSI with verb 0x4C. -/
  | il (ps : List Nat)
  /-- DL. R183: CSI with verb 0x4D. -/
  | dl (ps : List Nat)
  /-- ECH. R184: CSI with verb 0x58. -/
  | ech (ps : List Nat)
  /-- DECSTBM. R185: CSI with verb 0x72. -/
  | decstbm (ps : List Nat)
  /-- SCP. R186: CSI with verb 0x73. -/
  | scp
  /-- RCP. R187: CSI with verb 0x75. -/
  | rcp
  /-- CSI-UNRECOGNISED. R188: CSI with any other verb v. -/
  | csiUnrecognised (v : Byte)
  /-- SGR-0. R201: SGR parameter 0, or the empty list. -/
  | sgr0
  /-- SGR-BOLD. R202: SGR parameter 1, 2 or 4. -/
  | sgrBold (p : Nat)
  /-- SGR-BLINK. R203: SGR parameter 5. -/
  | sgrBlink
  /-- SGR-REVERSE. R204: SGR parameter 7 or 27. -/
  | sgrReverse (p : Nat)
  /-- SGR-INVISIBLE. R205: SGR parameter 8. -/
  | sgrInvisible
  /-- SGR-PRIMARY. R206: SGR parameter 10. -/
  | sgrPrimary
  /-- SGR-ALTCS. R207: SGR parameter 11. -/
  | sgrAltcs
  /-- SGR-BOLD-OFF. R208: SGR parameter 22 or 24. -/
  | sgrBoldOff (p : Nat)
  /-- SGR-BLINK-OFF. R209: SGR parameter 25. -/
  | sgrBlinkOff
  /-- SGR-INVISIBLE-OFF. R210: SGR parameter 28. -/
  | sgrInvisibleOff
  /-- SGR-FG. R211: SGR parameter 30 to 37. -/
  | sgrFg (p : Nat)
  /-- SGR-FG-DEFAULT. R212: SGR parameter 39. -/
  | sgrFgDefault
  /-- SGR-BG. R213: SGR parameter 40 to 47. -/
  | sgrBg (p : Nat)
  /-- SGR-BG-DEFAULT. R214: SGR parameter 49. -/
  | sgrBgDefault
  /-- SGR-IGNORED. R215: SGR parameter of any other value. -/
  | sgrIgnored (p : Nat)
  /-- SM-CKM. R221: SM parameter 1. -/
  | smCkm
  /-- SM-ANM. R221: SM parameter 2. -/
  | smAnm
  /-- SM-COLM. R221: SM parameter 3. -/
  | smColm
  /-- SM-SCLM. R221: SM parameter 4. -/
  | smSclm
  /-- SM-SCNM. R221: SM parameter 5. -/
  | smScnm
  /-- SM-OM. R221: SM parameter 6. -/
  | smOm
  /-- SM-AWM. R221: SM parameter 7. -/
  | smAwm
  /-- SM-ARM. R221: SM parameter 8. -/
  | smArm
  /-- SM-INLM. R221: SM parameter 9. -/
  | smInlm
  /-- SM-LNM. R221: SM parameter 20. -/
  | smLnm
  /-- SM-25. R222: SM parameter 25. -/
  | sm25
  /-- SM-IGNORED. R223: SM parameter of any other value. -/
  | smIgnored (p : Nat)
  /-- RM-25. R227: RM parameter 25. -/
  | rm25
  /-- RM-IGNORED. R227: RM parameter of any other value. -/
  | rmIgnored (p : Nat)
  /-- KEY-CHAR. R242: Char(b) pressed. -/
  | keyChar (b : Byte) (m : Mods)
  /-- KEY-UP. R243: key `up` pressed. -/
  | keyUp (m : Mods)
  /-- KEY-DOWN. R243: key `down` pressed. -/
  | keyDown (m : Mods)
  /-- KEY-RIGHT. R243: key `right` pressed. -/
  | keyRight (m : Mods)
  /-- KEY-LEFT. R243: key `left` pressed. -/
  | keyLeft (m : Mods)
  /-- KEY-F1. R246 and R247: key `f1` pressed. -/
  | keyF1 (m : Mods)
  /-- KEY-F2. R246 and R247: key `f2` pressed. -/
  | keyF2 (m : Mods)
  /-- KEY-F3. R246 and R247: key `f3` pressed. -/
  | keyF3 (m : Mods)
  /-- KEY-F4. R246 and R247: key `f4` pressed. -/
  | keyF4 (m : Mods)
  /-- KEY-F5. R246 and R247: key `f5` pressed. -/
  | keyF5 (m : Mods)
  /-- KEY-F6. R247 and R248: key `f6` pressed. -/
  | keyF6 (m : Mods)
  /-- KEY-F7. R247 and R248: key `f7` pressed. -/
  | keyF7 (m : Mods)
  /-- KEY-F8. R247 and R248: key `f8` pressed. -/
  | keyF8 (m : Mods)
  /-- KEY-F9. R247 and R248: key `f9` pressed. -/
  | keyF9 (m : Mods)
  /-- KEY-F10. R247 and R248: key `f10` pressed. -/
  | keyF10 (m : Mods)
  /-- KEY-F11. R247 and R248: key `f11` pressed. -/
  | keyF11 (m : Mods)
  /-- KEY-F12. R247 and R248: key `f12` pressed. -/
  | keyF12 (m : Mods)
  /-- KEY-INSERT. R247 and R248: key `insert` pressed. -/
  | keyInsert (m : Mods)
  /-- KEY-DELETE. R247 and R248: key `delete` pressed. -/
  | keyDelete (m : Mods)
  /-- KEY-HOME. R247 and R248: key `home` pressed. -/
  | keyHome (m : Mods)
  /-- KEY-END. R247 and R248: key `endKey` pressed. -/
  | keyEnd (m : Mods)
  /-- KEY-PAGEUP. R247 and R248: key `pageUp` pressed. -/
  | keyPageUp (m : Mods)
  /-- KEY-PAGEDOWN. R247 and R248: key `pageDown` pressed. -/
  | keyPageDown (m : Mods)
  /-- KEY-SUSPEND. R247 and R248: key `suspend` pressed. -/
  | keySuspend (m : Mods)
  /-- KEY-NULL. R249: key `null` pressed. -/
  | keyNull (m : Mods)
  /-- KEY-RELEASED. R249: any key released. -/
  | keyReleased (k : KeyIdent) (m : Mods)
  deriving DecidableEq, Repr

/-- Which CSI command a parameter value stands in (format `F-CSI-param`, R71). -/
inductive ParamVerb where
  | sgr
  | sm
  | rm
  deriving DecidableEq, Repr

/-- A unit of encoding (R71): the bytes of one form of the input stream; one parameter value of SGR, SM or RM (`none` is
the empty parameter list); one key event. -/
inductive Code where
  | bytes (l : List Byte)
  | param (v : ParamVerb) (p : Option Nat)
  | key (ev : KeyEvent)
  deriving DecidableEq, Repr

/-- Why a unit of encoding is no instruction. -/
inductive DecodeError where
  /-- no byte at all -/
  | noByte
  /-- several bytes, the first of which is neither ESC nor 0x9B, so they are several forms -/
  | notALead
  /-- a byte inside an escape sequence is NUL, a C0 byte or 0x9B: it is an input of its own (R78) -/
  | controlInside
  /-- bytes follow the byte that completes the form -/
  | trailing
  /-- SM or RM with an empty parameter list has no parameter instruction (45_modes.md R220) -/
  | noParameter
  /-- the key identifier is outside R89 -/
  | badKey
  deriving DecidableEq, Repr

end Sys2Proof
end

