-- ==== Sys2Proof/WellFormed.lean ====
section
/-! DEFINITION. Well-formed instructions: those whose operands the spec's encodings admit. An operand that is a byte of a
form is in the byte class of that form (30_encoding.md R70, R72 to R76); the operand of a parameter instruction is one of the
values of its row (R86); the key of a released event is one of R89. -/

namespace Sys2Proof

/-- The operands are ones the instruction's encoding admits. -/
def WellFormed : Instr → Bool
  | .nul => true
  | .c0Nop01 => true
  | .c0Nop02 => true
  | .c0Nop03 => true
  | .c0Nop04 => true
  | .c0Nop05 => true
  | .c0Nop06 => true
  | .bel => true
  | .bs => true
  | .ht => true
  | .lf => true
  | .vt => true
  | .ff => true
  | .cr => true
  | .so => true
  | .si => true
  | .c0Nop10 => true
  | .c0Nop11 => true
  | .c0Nop12 => true
  | .c0Nop13 => true
  | .c0Nop14 => true
  | .c0Nop15 => true
  | .c0Nop16 => true
  | .c0Nop17 => true
  | .can => true
  | .c0Nop19 => true
  | .sub => true
  | .esc => true
  | .c0Nop1C => true
  | .c0Nop1D => true
  | .c0Nop1E => true
  | .c0Nop1F => true
  | .csi8 => true
  | .oscEnd => true
  | .print b => isGraphic b
  | .ind => true
  | .nel => true
  | .ri => true
  | .decsc => true
  | .decrc => true
  | .decaln => true
  | .escHashOther none => true
  | .escHashOther (some f) => isGraphic f && f != 0x38
  | .scsG0 none => true
  | .scsG0 (some f) => isGraphic f
  | .scsG1 none => true
  | .scsG1 (some f) => isGraphic f
  | .csi none => true
  | .csi (some b) => isGraphic b && !isFinal b
  | .osc none => true
  | .osc (some t) => isGraphic t
  | .escUnrecognised f => isGraphic f && !escapeLeads.contains f
  | .sgr _ => true
  | .sm _ => true
  | .rm _ => true
  | .ed _ => true
  | .cup _ => true
  | .hvp _ => true
  | .cuu _ => true
  | .cud _ => true
  | .cuf _ => true
  | .cub _ => true
  | .cnl _ => true
  | .cpl _ => true
  | .cha _ => true
  | .vpr _ => true
  | .hpr _ => true
  | .vpa _ => true
  | .hpa _ => true
  | .el _ => true
  | .ich _ => true
  | .dch _ => true
  | .il _ => true
  | .dl _ => true
  | .ech _ => true
  | .decstbm _ => true
  | .scp => true
  | .rcp => true
  | .csiUnrecognised v => isFinal v && !csiVerbs.contains v
  | .sgr0 => true
  | .sgrBold p => p == 1 || p == 2 || p == 4
  | .sgrBlink => true
  | .sgrReverse p => p == 7 || p == 27
  | .sgrInvisible => true
  | .sgrPrimary => true
  | .sgrAltcs => true
  | .sgrBoldOff p => p == 22 || p == 24
  | .sgrBlinkOff => true
  | .sgrInvisibleOff => true
  | .sgrFg p => decide (30 ≤ p) && decide (p ≤ 37)
  | .sgrFgDefault => true
  | .sgrBg p => decide (40 ≤ p) && decide (p ≤ 47)
  | .sgrBgDefault => true
  | .sgrIgnored p => !sgrValues.contains p
  | .smCkm => true
  | .smAnm => true
  | .smColm => true
  | .smSclm => true
  | .smScnm => true
  | .smOm => true
  | .smAwm => true
  | .smArm => true
  | .smInlm => true
  | .smLnm => true
  | .sm25 => true
  | .smIgnored p => !smValues.contains p
  | .rm25 => true
  | .rmIgnored p => p != 25
  | .keyChar _ _ => true
  | .keyUp _ => true
  | .keyDown _ => true
  | .keyRight _ => true
  | .keyLeft _ => true
  | .keyF1 _ => true
  | .keyF2 _ => true
  | .keyF3 _ => true
  | .keyF4 _ => true
  | .keyF5 _ => true
  | .keyF6 _ => true
  | .keyF7 _ => true
  | .keyF8 _ => true
  | .keyF9 _ => true
  | .keyF10 _ => true
  | .keyF11 _ => true
  | .keyF12 _ => true
  | .keyInsert _ => true
  | .keyDelete _ => true
  | .keyHome _ => true
  | .keyEnd _ => true
  | .keyPageUp _ => true
  | .keyPageDown _ => true
  | .keySuspend _ => true
  | .keyNull _ => true
  | .keyReleased k _ => isKnownKey k

end Sys2Proof
end

