-- ==== Sys2Proof/Decode.lean ====
section
/-! DEFINITION. The decoder and the encoder (30_encoding.md). `decode` is total on any unit of encoding and rejects by name.
`decodeAny` is the part of it that reads the bytes of one form, total on every list of bytes; the step runs it on the text
of the sequence in progress, which the invariant of 10_state.md R30 and R31 keeps a form. -/

namespace Sys2Proof

/-! ### Parameter text (R80) -/

/-- The fields of a parameter text between its ';' separators, empty fields kept (R80, `Split`). -/
def splitFields : List Byte → List (List Byte)
  | [] => [[]]
  | b :: rest =>
    match splitFields rest with
    | [] => if b == 0x3B then [[], []] else [[b]]
    | f :: fs => if b == 0x3B then [] :: f :: fs else (b :: f) :: fs

/-- The decimal value of a digit string, 0 if it is empty (R80, `Dec`; unbounded, R83). -/
def decValue (digits : List Byte) : Nat :=
  digits.foldl (fun n d => 10 * n + (d.toNat - 0x30)) 0

/-- The parameter list of a CSI body: one leading '?' dropped, then the longest run of digits and ';', split and
evaluated; the rest of the body is ignored (R74, R80). -/
def parseParams (body : List Byte) : List Nat :=
  let unmarked := match body with
    | [] => []
    | b :: rest => if b == 0x3F then rest else b :: rest
  let ptext := unmarked.takeWhile isParamByte
  if ptext.isEmpty then [] else (splitFields ptext).map decValue

/-! ### One byte (R70, R105) -/

/-- The instruction of a byte that stands alone: NUL, a control byte, or PRINT (40_parser_control.md R100, R105). -/
def decodeByte (b : Byte) : Instr :=
  match b.toNat with
  | 0x00 => .nul
  | 0x01 => .c0Nop01
  | 0x02 => .c0Nop02
  | 0x03 => .c0Nop03
  | 0x04 => .c0Nop04
  | 0x05 => .c0Nop05
  | 0x06 => .c0Nop06
  | 0x07 => .bel
  | 0x08 => .bs
  | 0x09 => .ht
  | 0x0A => .lf
  | 0x0B => .vt
  | 0x0C => .ff
  | 0x0D => .cr
  | 0x0E => .so
  | 0x0F => .si
  | 0x10 => .c0Nop10
  | 0x11 => .c0Nop11
  | 0x12 => .c0Nop12
  | 0x13 => .c0Nop13
  | 0x14 => .c0Nop14
  | 0x15 => .c0Nop15
  | 0x16 => .c0Nop16
  | 0x17 => .c0Nop17
  | 0x18 => .can
  | 0x19 => .c0Nop19
  | 0x1A => .sub
  | 0x1B => .esc
  | 0x1C => .c0Nop1C
  | 0x1D => .c0Nop1D
  | 0x1E => .c0Nop1E
  | 0x1F => .c0Nop1F
  | 0x9B => .csi8
  | _ => .print b

/-! ### CSI verbs (R85; 43_csi.md R160) -/

/-- The instruction of a completed CSI sequence with parameter list `ps` and verb `v`. -/
def decodeVerb (ps : List Nat) (v : Byte) : Instr :=
  match v.toNat with
  | 0x6D => .sgr ps
  | 0x68 => .sm ps
  | 0x6C => .rm ps
  | 0x4A => .ed ps
  | 0x48 => .cup ps
  | 0x66 => .hvp ps
  | 0x41 => .cuu ps
  | 0x42 => .cud ps
  | 0x43 => .cuf ps
  | 0x44 => .cub ps
  | 0x45 => .cnl ps
  | 0x46 => .cpl ps
  | 0x47 => .cha ps
  | 0x65 => .vpr ps
  | 0x61 => .hpr ps
  | 0x64 => .vpa ps
  | 0x60 => .hpa ps
  | 0x4B => .el ps
  | 0x40 => .ich ps
  | 0x50 => .dch ps
  | 0x4C => .il ps
  | 0x4D => .dl ps
  | 0x58 => .ech ps
  | 0x72 => .decstbm ps
  | 0x73 => .scp
  | 0x75 => .rcp
  | _ => .csiUnrecognised v

/-! ### Sequences (41_escape.md R131) -/

/-- The instruction that the last byte of `f :: rest` belongs to, where `f :: rest` is the text after ESC (with '[' in
place of 0x9B): the dispatch of R131 on the first byte. -/
def decodeSeq (f : Byte) (rest : List Byte) : Instr :=
  match f.toNat with
  | 0x4D => .ri
  | 0x44 => .ind
  | 0x45 => .nel
  | 0x37 => .decsc
  | 0x38 => .decrc
  | 0x23 =>
    match rest with
    | [] => .escHashOther none
    | g :: _ => if g == 0x38 then .decaln else .escHashOther (some g)
  | 0x28 => .scsG0 rest.head?
  | 0x29 => .scsG1 rest.head?
  | 0x5B =>
    match rest.getLast? with
    | none => .csi none
    | some v => if isFinal v then decodeVerb (parseParams rest.dropLast) v else .csi (some v)
  | 0x5D =>
    match rest.getLast? with
    | none => .osc none
    | some t => if t == 0x07 then .oscEnd else .osc (some t)
  | _ => .escUnrecognised f

/-- The instruction read from the bytes of one form, on any list of bytes; `formError` says which lists are a form. -/
def decodeAny : List Byte → Instr
  | [] => .nul
  | [b] => decodeByte b
  | lead :: f :: rest => if lead == 0x9B then decodeSeq 0x5B (f :: rest) else decodeSeq f rest

/-- Why the text `f :: rest` after ESC is not one form of R71, if it is not. -/
def seqError (f : Byte) (rest : List Byte) : Option DecodeError :=
  if !isGraphic f then some .controlInside
  else if f == 0x5D then
    let payload := if rest.getLast? == some 0x07 then rest.dropLast else rest
    if payload.all isGraphic then none else some .controlInside
  else if !rest.all isGraphic then some .controlInside
  else if f == 0x5B then
    if rest.dropLast.any isFinal then some .trailing else none
  else if f == 0x23 || f == 0x28 || f == 0x29 then
    if decide (rest.length ≤ 1) then none else some .trailing
  else
    if rest.isEmpty then none else some .trailing

/-- Why a list of bytes is not one form of R71 (complete, or still open), if it is not. -/
def formError : List Byte → Option DecodeError
  | [] => some .noByte
  | [_] => none
  | lead :: f :: rest =>
    if lead == 0x9B then seqError 0x5B (f :: rest)
    else if lead == 0x1B then seqError f rest
    else some .notALead

/-! ### Parameter instructions (R86; 44_sgr.md R201 to R215; 45_modes.md R221 to R223, R227) -/

/-- The parameter instruction of SGR for the value `p`. -/
def decodeSgrParam (p : Nat) : Instr :=
  if p = 0 then .sgr0
  else if p = 1 ∨ p = 2 ∨ p = 4 then .sgrBold p
  else if p = 5 then .sgrBlink
  else if p = 7 ∨ p = 27 then .sgrReverse p
  else if p = 8 then .sgrInvisible
  else if p = 10 then .sgrPrimary
  else if p = 11 then .sgrAltcs
  else if p = 22 ∨ p = 24 then .sgrBoldOff p
  else if p = 25 then .sgrBlinkOff
  else if p = 28 then .sgrInvisibleOff
  else if 30 ≤ p ∧ p ≤ 37 then .sgrFg p
  else if p = 39 then .sgrFgDefault
  else if 40 ≤ p ∧ p ≤ 47 then .sgrBg p
  else if p = 49 then .sgrBgDefault
  else .sgrIgnored p

/-- The parameter instruction of SM for the value `p`. -/
def decodeSmParam (p : Nat) : Instr :=
  match p with
  | 1 => .smCkm
  | 2 => .smAnm
  | 3 => .smColm
  | 4 => .smSclm
  | 5 => .smScnm
  | 6 => .smOm
  | 7 => .smAwm
  | 8 => .smArm
  | 9 => .smInlm
  | 20 => .smLnm
  | 25 => .sm25
  | _ => .smIgnored p

/-- The parameter instruction of RM for the value `p`. -/
def decodeRmParam (p : Nat) : Instr :=
  if p = 25 then .rm25 else .rmIgnored p

/-! ### Key events (R88, R89; 46_keyboard.md R240) -/

/-- The instruction of a pressed key. -/
def decodePressed (k : KeyIdent) (m : Mods) : Except DecodeError Instr :=
  match k with
  | .char b => .ok (.keyChar b m)
  | .up => .ok (.keyUp m)
  | .down => .ok (.keyDown m)
  | .right => .ok (.keyRight m)
  | .left => .ok (.keyLeft m)
  | .f1 => .ok (.keyF1 m)
  | .f2 => .ok (.keyF2 m)
  | .f3 => .ok (.keyF3 m)
  | .f4 => .ok (.keyF4 m)
  | .f5 => .ok (.keyF5 m)
  | .f6 => .ok (.keyF6 m)
  | .f7 => .ok (.keyF7 m)
  | .f8 => .ok (.keyF8 m)
  | .f9 => .ok (.keyF9 m)
  | .f10 => .ok (.keyF10 m)
  | .f11 => .ok (.keyF11 m)
  | .f12 => .ok (.keyF12 m)
  | .insert => .ok (.keyInsert m)
  | .delete => .ok (.keyDelete m)
  | .home => .ok (.keyHome m)
  | .endKey => .ok (.keyEnd m)
  | .pageUp => .ok (.keyPageUp m)
  | .pageDown => .ok (.keyPageDown m)
  | .suspend => .ok (.keySuspend m)
  | .null => .ok (.keyNull m)
  | .unknown _ => .error .badKey

/-- The instruction of a key event; an identifier outside R89 is rejected whether pressed or not
(60_exceptions.md R265). -/
def decodeKey (ev : KeyEvent) : Except DecodeError Instr :=
  if ev.pressed then decodePressed ev.key ev.mods
  else if isKnownKey ev.key then .ok (.keyReleased ev.key ev.mods)
  else .error .badKey

/-! ### The decoder -/

/-- The instruction of a unit of encoding, or the name of the reason why it is none. -/
def decode : Code → Except DecodeError Instr
  | .bytes l =>
    match formError l with
    | some e => .error e
    | none => .ok (decodeAny l)
  | .param .sgr none => .ok .sgr0
  | .param .sgr (some p) => .ok (decodeSgrParam p)
  | .param .sm none => .error .noParameter
  | .param .sm (some p) => .ok (decodeSmParam p)
  | .param .rm none => .error .noParameter
  | .param .rm (some p) => .ok (decodeRmParam p)
  | .key ev => decodeKey ev

/-! ### The encoder -/

/-- The decimal digits of `n`, most significant first, within `fuel` digits. -/
def decimalWithin : Nat → Nat → List Byte
  | 0, n => [BitVec.ofNat 8 (0x30 + n % 10)]
  | fuel + 1, n =>
    if n < 10 then [BitVec.ofNat 8 (0x30 + n)]
    else decimalWithin fuel (n / 10) ++ [BitVec.ofNat 8 (0x30 + n % 10)]

/-- The decimal digits of `n`, with no leading zero. -/
def decimal (n : Nat) : List Byte :=
  decimalWithin n n

/-- A parameter text that `parseParams` reads as `ps`: the numbers in decimal with ';' between them. -/
def paramText : List Nat → List Byte
  | [] => []
  | [p] => decimal p
  | p :: q :: rest => decimal p ++ 0x3B :: paramText (q :: rest)

/-- The bytes of a CSI command (format `F-CSI`, with the two-byte introducer). -/
def csiBytes (ps : List Nat) (v : Byte) : Code :=
  .bytes (0x1B :: 0x5B :: (paramText ps ++ [v]))

/-- A pressed key (format `F-KEY`). -/
def pressedKey (k : KeyIdent) (m : Mods) : Code :=
  .key { key := k, pressed := true, mods := m }

/-- The encoding of an instruction, from the tables of 30_encoding.md. -/
def encode : Instr → Code
  | .nul => .bytes [0x00]
  | .c0Nop01 => .bytes [0x01]
  | .c0Nop02 => .bytes [0x02]
  | .c0Nop03 => .bytes [0x03]
  | .c0Nop04 => .bytes [0x04]
  | .c0Nop05 => .bytes [0x05]
  | .c0Nop06 => .bytes [0x06]
  | .bel => .bytes [0x07]
  | .bs => .bytes [0x08]
  | .ht => .bytes [0x09]
  | .lf => .bytes [0x0A]
  | .vt => .bytes [0x0B]
  | .ff => .bytes [0x0C]
  | .cr => .bytes [0x0D]
  | .so => .bytes [0x0E]
  | .si => .bytes [0x0F]
  | .c0Nop10 => .bytes [0x10]
  | .c0Nop11 => .bytes [0x11]
  | .c0Nop12 => .bytes [0x12]
  | .c0Nop13 => .bytes [0x13]
  | .c0Nop14 => .bytes [0x14]
  | .c0Nop15 => .bytes [0x15]
  | .c0Nop16 => .bytes [0x16]
  | .c0Nop17 => .bytes [0x17]
  | .can => .bytes [0x18]
  | .c0Nop19 => .bytes [0x19]
  | .sub => .bytes [0x1A]
  | .esc => .bytes [0x1B]
  | .c0Nop1C => .bytes [0x1C]
  | .c0Nop1D => .bytes [0x1D]
  | .c0Nop1E => .bytes [0x1E]
  | .c0Nop1F => .bytes [0x1F]
  | .csi8 => .bytes [0x9B]
  | .oscEnd => .bytes [0x1B, 0x5D, 0x07]
  | .print b => .bytes [b]
  | .ind => .bytes [0x1B, 0x44]
  | .nel => .bytes [0x1B, 0x45]
  | .ri => .bytes [0x1B, 0x4D]
  | .decsc => .bytes [0x1B, 0x37]
  | .decrc => .bytes [0x1B, 0x38]
  | .decaln => .bytes [0x1B, 0x23, 0x38]
  | .escHashOther f => .bytes (0x1B :: 0x23 :: f.toList)
  | .scsG0 f => .bytes (0x1B :: 0x28 :: f.toList)
  | .scsG1 f => .bytes (0x1B :: 0x29 :: f.toList)
  | .csi b => .bytes (0x1B :: 0x5B :: b.toList)
  | .osc t => .bytes (0x1B :: 0x5D :: t.toList)
  | .escUnrecognised f => .bytes [0x1B, f]
  | .sgr ps => csiBytes ps 0x6D
  | .sm ps => csiBytes ps 0x68
  | .rm ps => csiBytes ps 0x6C
  | .ed ps => csiBytes ps 0x4A
  | .cup ps => csiBytes ps 0x48
  | .hvp ps => csiBytes ps 0x66
  | .cuu ps => csiBytes ps 0x41
  | .cud ps => csiBytes ps 0x42
  | .cuf ps => csiBytes ps 0x43
  | .cub ps => csiBytes ps 0x44
  | .cnl ps => csiBytes ps 0x45
  | .cpl ps => csiBytes ps 0x46
  | .cha ps => csiBytes ps 0x47
  | .vpr ps => csiBytes ps 0x65
  | .hpr ps => csiBytes ps 0x61
  | .vpa ps => csiBytes ps 0x64
  | .hpa ps => csiBytes ps 0x60
  | .el ps => csiBytes ps 0x4B
  | .ich ps => csiBytes ps 0x40
  | .dch ps => csiBytes ps 0x50
  | .il ps => csiBytes ps 0x4C
  | .dl ps => csiBytes ps 0x4D
  | .ech ps => csiBytes ps 0x58
  | .decstbm ps => csiBytes ps 0x72
  | .scp => csiBytes [] 0x73
  | .rcp => csiBytes [] 0x75
  | .csiUnrecognised v => csiBytes [] v
  | .sgr0 => .param .sgr (some 0)
  | .sgrBold p => .param .sgr (some p)
  | .sgrBlink => .param .sgr (some 5)
  | .sgrReverse p => .param .sgr (some p)
  | .sgrInvisible => .param .sgr (some 8)
  | .sgrPrimary => .param .sgr (some 10)
  | .sgrAltcs => .param .sgr (some 11)
  | .sgrBoldOff p => .param .sgr (some p)
  | .sgrBlinkOff => .param .sgr (some 25)
  | .sgrInvisibleOff => .param .sgr (some 28)
  | .sgrFg p => .param .sgr (some p)
  | .sgrFgDefault => .param .sgr (some 39)
  | .sgrBg p => .param .sgr (some p)
  | .sgrBgDefault => .param .sgr (some 49)
  | .sgrIgnored p => .param .sgr (some p)
  | .smCkm => .param .sm (some 1)
  | .smAnm => .param .sm (some 2)
  | .smColm => .param .sm (some 3)
  | .smSclm => .param .sm (some 4)
  | .smScnm => .param .sm (some 5)
  | .smOm => .param .sm (some 6)
  | .smAwm => .param .sm (some 7)
  | .smArm => .param .sm (some 8)
  | .smInlm => .param .sm (some 9)
  | .smLnm => .param .sm (some 20)
  | .sm25 => .param .sm (some 25)
  | .smIgnored p => .param .sm (some p)
  | .rm25 => .param .rm (some 25)
  | .rmIgnored p => .param .rm (some p)
  | .keyChar b m => pressedKey (.char b) m
  | .keyUp m => pressedKey .up m
  | .keyDown m => pressedKey .down m
  | .keyRight m => pressedKey .right m
  | .keyLeft m => pressedKey .left m
  | .keyF1 m => pressedKey .f1 m
  | .keyF2 m => pressedKey .f2 m
  | .keyF3 m => pressedKey .f3 m
  | .keyF4 m => pressedKey .f4 m
  | .keyF5 m => pressedKey .f5 m
  | .keyF6 m => pressedKey .f6 m
  | .keyF7 m => pressedKey .f7 m
  | .keyF8 m => pressedKey .f8 m
  | .keyF9 m => pressedKey .f9 m
  | .keyF10 m => pressedKey .f10 m
  | .keyF11 m => pressedKey .f11 m
  | .keyF12 m => pressedKey .f12 m
  | .keyInsert m => pressedKey .insert m
  | .keyDelete m => pressedKey .delete m
  | .keyHome m => pressedKey .home m
  | .keyEnd m => pressedKey .endKey m
  | .keyPageUp m => pressedKey .pageUp m
  | .keyPageDown m => pressedKey .pageDown m
  | .keySuspend m => pressedKey .suspend m
  | .keyNull m => pressedKey .null m
  | .keyReleased k m => .key { key := k, pressed := false, mods := m }

/-! ### Words of the opcode table

spec/opcode_table.json reads a pattern of several bytes as ONE number, so the LAST byte of a form holds bits 7..0 and the
first byte the highest (IND, `1B 44`, is 0x1B44); see log 10. -/

/-- The bytes of a table word of `n` bytes, first byte of the form first. -/
def tableBytes : Nat → Nat → List Byte
  | 0, _ => []
  | n + 1, w => BitVec.ofNat 8 (w / 256 ^ n) :: tableBytes n w

/-- The instruction the decoder reads from a table word of `nbits` bits. -/
def decodeTableWord (nbits w : Nat) : Option Instr :=
  match decode (.bytes (tableBytes (nbits / 8) w)) with
  | .ok i => some i
  | .error _ => none

end Sys2Proof
end

