-- ==== Sys2Proof/Machine/Operands.lean ====
section
/-! DEFINITION. The operand forms: access to the parameter list (30_encoding.md R81, R82), the clamp of 00_scope.md R10, and
the clamped cursor write that takes a computed position (43_csi.md R161). -/

namespace Sys2Proof.Machine

/-- `clamp(v, 0, hi)` over the integers (00_scope.md R10), a natural number. -/
def clampTo (v : Int) (hi : Nat) : Nat :=
  (max 0 (min v (hi : Int))).toNat

/-- `Param(i)`: the parameter, 0 where there is none (30_encoding.md R81). -/
def param (ps : List Nat) (i : Nat) : Nat :=
  ps.getD i 0

/-- `Amount()`: the first parameter if it is at least 1, else 1 (R82). -/
def amount (ps : List Nat) : Nat :=
  match ps with
  | [] => 1
  | p :: _ => if 1 ≤ p then p else 1

/-- `Param(i) - 1`, an integer: −1 for a missing or zero parameter (R83). -/
def paramPred (ps : List Nat) (i : Nat) : Int :=
  (param ps i : Int) - 1

/-- `CursorTo(r, c)` (43_csi.md R161). -/
def cursorTo (r c : Int) (s : State) : State :=
  (s.setCursor (clampTo r (s.params.rows - 1)) (clampTo c (s.params.cols - 1))).emit .invCursor

/-- Run `f` on each parameter, left to right (44_sgr.md R200, 45_modes.md R220, R227). -/
def walk (f : Nat → State → Out) : List Nat → State → Out
  | [], s => .next s
  | p :: ps, s => andThen (f p s) (walk f ps)

end Sys2Proof.Machine
end

