-- ==== Sys2Proof/Machine/Cursor.lean ====
section
/-! DEFINITION. The CSI commands that move, save or restore the cursor (43_csi.md R166 to R178, R186, R187). Each command is
an operation, and its instruction runs the operation and then `Cancel()` (41_escape.md R141). -/

namespace Sys2Proof.Machine

/-- The cursor position command: home with no parameter, else the 1-based position (R166). -/
def cursorPosition (ps : List Nat) (s : State) : State :=
  if ps.isEmpty then cursorTo 0 0 s else cursorTo (paramPred ps 0) (paramPred ps 1) s

/-- CUP (R166). -/
def cup (ps : List Nat) (s : State) : Out :=
  .next (cursorPosition ps s)

/-- The instruction CUP. -/
def execCup (ps : List Nat) (s : State) : Out :=
  thenCancel (cup ps s)

/-- HVP, exactly CUP (R167). -/
def hvp (ps : List Nat) (s : State) : Out :=
  .next (cursorPosition ps s)

/-- The instruction HVP. -/
def execHvp (ps : List Nat) (s : State) : Out :=
  thenCancel (hvp ps s)

/-- CUU, up (R168). -/
def cuu (ps : List Nat) (s : State) : Out :=
  .next (cursorTo ((s.row : Int) - amount ps) s.col s)

/-- The instruction CUU. -/
def execCuu (ps : List Nat) (s : State) : Out :=
  thenCancel (cuu ps s)

/-- CUD, down (R169). -/
def cud (ps : List Nat) (s : State) : Out :=
  .next (cursorTo ((s.row : Int) + amount ps) s.col s)

/-- The instruction CUD. -/
def execCud (ps : List Nat) (s : State) : Out :=
  thenCancel (cud ps s)

/-- CUF, forward (R170). -/
def cuf (ps : List Nat) (s : State) : Out :=
  .next (cursorTo s.row ((s.col : Int) + amount ps) s)

/-- The instruction CUF. -/
def execCuf (ps : List Nat) (s : State) : Out :=
  thenCancel (cuf ps s)

/-- CUB, back (R171). -/
def cub (ps : List Nat) (s : State) : Out :=
  .next (cursorTo s.row ((s.col : Int) - amount ps) s)

/-- The instruction CUB. -/
def execCub (ps : List Nat) (s : State) : Out :=
  thenCancel (cub ps s)

/-- CNL, down, column kept (R172). -/
def cnl (ps : List Nat) (s : State) : Out :=
  .next (cursorTo ((s.row : Int) + amount ps) s.col s)

/-- The instruction CNL. -/
def execCnl (ps : List Nat) (s : State) : Out :=
  thenCancel (cnl ps s)

/-- CPL, up, column kept (R173). -/
def cpl (ps : List Nat) (s : State) : Out :=
  .next (cursorTo ((s.row : Int) - amount ps) s.col s)

/-- The instruction CPL. -/
def execCpl (ps : List Nat) (s : State) : Out :=
  thenCancel (cpl ps s)

/-- CHA, 1-based column (R174). -/
def cha (ps : List Nat) (s : State) : Out :=
  .next (cursorTo s.row ((amount ps : Int) - 1) s)

/-- The instruction CHA. -/
def execCha (ps : List Nat) (s : State) : Out :=
  thenCancel (cha ps s)

/-- VPR, down (R175). -/
def vpr (ps : List Nat) (s : State) : Out :=
  .next (cursorTo ((s.row : Int) + amount ps) s.col s)

/-- The instruction VPR. -/
def execVpr (ps : List Nat) (s : State) : Out :=
  thenCancel (vpr ps s)

/-- HPR, forward (R176). -/
def hpr (ps : List Nat) (s : State) : Out :=
  .next (cursorTo s.row ((s.col : Int) + amount ps) s)

/-- The instruction HPR. -/
def execHpr (ps : List Nat) (s : State) : Out :=
  thenCancel (hpr ps s)

/-- VPA, 1-based row (R177). -/
def vpa (ps : List Nat) (s : State) : Out :=
  .next (cursorTo ((amount ps : Int) - 1) s.col s)

/-- The instruction VPA. -/
def execVpa (ps : List Nat) (s : State) : Out :=
  thenCancel (vpa ps s)

/-- HPA, 1-based column (R178). -/
def hpa (ps : List Nat) (s : State) : Out :=
  .next (cursorTo s.row ((amount ps : Int) - 1) s)

/-- The instruction HPA. -/
def execHpa (ps : List Nat) (s : State) : Out :=
  thenCancel (hpa ps s)

/-- SCP: the position, verbatim, into the slot that `SHARED_SAVE_SLOT` selects (R186). -/
def scp (s : State) : Out :=
  .next (if s.params.sharedSaveSlot then s.setSavePos s.row s.col else s.setCsr s.row s.col)

/-- The instruction SCP. -/
def execScp (s : State) : Out :=
  thenCancel (scp s)

/-- RCP: the position from the slot that `SHARED_SAVE_SLOT` selects (R187). -/
def rcp (s : State) : Out :=
  .next ((if s.params.sharedSaveSlot then s.setCursor s.saveRow s.saveCol
    else s.setCursor s.csrRow s.csrCol).emit .invCursor)

/-- The instruction RCP. -/
def execRcp (s : State) : Out :=
  thenCancel (rcp s)

end Sys2Proof.Machine
end

