-- ==== Sys2Proof/Machine/Edit.lean ====
section
/-! DEFINITION. The CSI commands that erase, insert and delete, the scrolling region, and the verbs without a meaning
(43_csi.md R165, R179 to R185, R188). Each command is an operation, and its instruction runs the operation and then
`Cancel()` (41_escape.md R141). -/

namespace Sys2Proof.Machine

/-- ED: 2 all, 1 origin to cursor, any other value cursor to end (R165). -/
def ed (ps : List Nat) (s : State) : Out :=
  if param ps 0 = 2 then eraseCells 0 0 (s.params.rows - 1) (s.params.cols - 1) s
  else if param ps 0 = 1 then eraseCells 0 0 s.row s.cc s
  else eraseCells s.row s.cc (s.params.rows - 1) (s.params.cols - 1) s

/-- The instruction ED. -/
def execEd (ps : List Nat) (s : State) : Out :=
  thenCancel (ed ps s)

/-- EL: 1 start to cursor, 2 whole line, any other value cursor to end (R179). -/
def el (ps : List Nat) (s : State) : Out :=
  if param ps 0 = 1 then eraseCells s.row 0 s.row s.cc s
  else if param ps 0 = 2 then eraseCells s.row 0 s.row (s.params.cols - 1) s
  else eraseCells s.row s.cc s.row (s.params.cols - 1) s

/-- The instruction EL. -/
def execEl (ps : List Nat) (s : State) : Out :=
  thenCancel (el ps s)

/-- Rewrite the tail `CC .. COLS-1` of the cursor row at once, the cell at column `c` becoming `f c`, and report each of
its cells (R180, R181). -/
def rewriteTail (f : Nat → Cell) (s : State) : Out :=
  if s.inGrid s.row s.cc then
    .next ((s.fillGrid (fun r c => if r = s.row ∧ s.cc ≤ c then f c else s.rawCell r c)).emitAll
      ((List.range' s.cc (s.params.cols - s.cc)).map (fun c => .invCell s.row c)))
  else .fault .outsideGrid

/-- ICH: the row tail moves right, blanks enter at the cursor (R180). -/
def ich (ps : List Nat) (s : State) : Out :=
  let n := min (amount ps) (s.params.cols - s.cc)
  rewriteTail (fun c => if s.cc + n ≤ c then s.rawCell s.row (c - n) else s.blank) s

/-- The instruction ICH. -/
def execIch (ps : List Nat) (s : State) : Out :=
  thenCancel (ich ps s)

/-- DCH: the row tail moves left, blanks enter at the end (R181). -/
def dch (ps : List Nat) (s : State) : Out :=
  let n := min (amount ps) (s.params.cols - s.cc)
  rewriteTail (fun c => if c + n < s.params.cols then s.rawCell s.row (c + n) else s.blank) s

/-- The instruction DCH. -/
def execDch (ps : List Nat) (s : State) : Out :=
  thenCancel (dch ps s)

/-- The cursor row lies in the scrolling region (R182, R183). -/
def State.rowInRegion (s : State) : Bool :=
  decide (s.scrollMin ≤ s.row) && decide (s.row ≤ s.scrollMax)

/-- IL (R182). -/
def il (ps : List Nat) (s : State) : Out :=
  if s.rowInRegion then
    andThen (shiftDown s.row s.scrollMax (amount ps) s) (fun t => .next (t.emit .invScreen))
  else .next s

/-- The instruction IL. -/
def execIl (ps : List Nat) (s : State) : Out :=
  thenCancel (il ps s)

/-- DL (R183). -/
def dl (ps : List Nat) (s : State) : Out :=
  if s.rowInRegion then
    andThen (shiftUp s.row s.scrollMax (amount ps) s) (fun t => .next (t.emit .invScreen))
  else .next s

/-- The instruction DL. -/
def execDl (ps : List Nat) (s : State) : Out :=
  thenCancel (dl ps s)

/-- ECH: blanks in place, up to the end of the row (R184). -/
def ech (ps : List Nat) (s : State) : Out :=
  eraseCells s.row s.cc s.row (min (s.cc + amount ps) s.params.cols - 1) s

/-- The instruction ECH. -/
def execEch (ps : List Nat) (s : State) : Out :=
  thenCancel (ech ps s)

/-- The region takes the bounds `top` and `bot`, rejected if `top` is below `bot`; SHORT says whether it is not the full
height (R185). -/
def takeRegion (top bot : Nat) (s : State) : State :=
  if bot < top then s
  else (s.setRegion top bot).setShort (!(top == 0 && bot == s.params.rows - 1))

/-- DECSTBM: full height with no parameter, else the clamped 1-based bounds (R185). -/
def decstbm (ps : List Nat) (s : State) : Out :=
  if ps.isEmpty then .next (takeRegion 0 (s.params.rows - 1) s)
  else .next (takeRegion (clampTo (paramPred ps 0) (s.params.rows - 1))
    (clampTo (paramPred ps 1) (s.params.rows - 1)) s)

/-- The instruction DECSTBM. -/
def execDecstbm (ps : List Nat) (s : State) : Out :=
  thenCancel (decstbm ps s)

/-- A verb without a meaning is consumed with no effect (R188). -/
def execCsiUnrecognised (_v : Byte) (s : State) : Out :=
  .next (cancel s)

end Sys2Proof.Machine
end

