-- ==== Sys2Proof/Machine/Flags.lean ====
section
/-! DEFINITION. The flags: the packings of the attribute word and of the state word (10_state.md R27, R29), the mode bits
that SM names (45_modes.md R221), and the XOR of two state words that the mode-change hook takes (R220). -/

namespace Sys2Proof.Machine

/-- One bit at position `i` of a 16-bit word. -/
def bitAt (i : Nat) (b : Bool) : Word :=
  if b then BitVec.ofNat 16 (2 ^ i) else 0

/-- The attribute word as 16 bits (R27); bits [15:13] are 0. -/
def Attr.toWord (a : Attr) : Word :=
  a.fg.setWidth 16 ||| (a.bg.setWidth 16 <<< 4) ||| bitAt 8 a.bold ||| bitAt 9 a.blink |||
    bitAt 10 a.reverse ||| bitAt 11 a.invisible ||| bitAt 12 a.altcs

/-- The state word as 16 bits (R29); bit 15 is 0. -/
def StateWord.toWord (w : StateWord) : Word :=
  bitAt 0 w.esc ||| bitAt 1 w.altcs ||| bitAt 2 w.curinv ||| bitAt 3 w.short |||
    bitAt 4 w.modes.lnm ||| bitAt 5 w.modes.ckm ||| bitAt 6 w.modes.anm ||| bitAt 7 w.modes.colm |||
    bitAt 8 w.modes.sclm ||| bitAt 9 w.modes.scnm ||| bitAt 10 w.modes.om ||| bitAt 11 w.modes.awm |||
    bitAt 12 w.modes.arm ||| bitAt 13 w.modes.inlm ||| bitAt 14 w.savedAltcs

/-- The bitwise XOR of two mode-bit records. -/
def modesXor (a b : Modes) : Modes :=
  { lnm := a.lnm != b.lnm, ckm := a.ckm != b.ckm, anm := a.anm != b.anm, colm := a.colm != b.colm,
    sclm := a.sclm != b.sclm, scnm := a.scnm != b.scnm, om := a.om != b.om, awm := a.awm != b.awm,
    arm := a.arm != b.arm, inlm := a.inlm != b.inlm }

/-- `old XOR STATE` (45_modes.md R220). -/
def StateWord.xor (a b : StateWord) : StateWord :=
  { esc := a.esc != b.esc, altcs := a.altcs != b.altcs, curinv := a.curinv != b.curinv,
    short := a.short != b.short, modes := modesXor a.modes b.modes, savedAltcs := a.savedAltcs != b.savedAltcs }

/-- The mode bits that SM sets (R221). -/
inductive ModeBit where
  | lnm | ckm | anm | colm | sclm | scnm | om | awm | arm | inlm
  deriving DecidableEq, Repr

/-- One mode bit of the state word. -/
def modeOf (m : Modes) : ModeBit → Bool
  | .lnm => m.lnm
  | .ckm => m.ckm
  | .anm => m.anm
  | .colm => m.colm
  | .sclm => m.sclm
  | .scnm => m.scnm
  | .om => m.om
  | .awm => m.awm
  | .arm => m.arm
  | .inlm => m.inlm

/-- The mode bits with one of them set to 1 (R221). -/
def withMode (m : Modes) : ModeBit → Modes
  | .lnm => { m with lnm := true }
  | .ckm => { m with ckm := true }
  | .anm => { m with anm := true }
  | .colm => { m with colm := true }
  | .sclm => { m with sclm := true }
  | .scnm => { m with scnm := true }
  | .om => { m with om := true }
  | .awm => { m with awm := true }
  | .arm => { m with arm := true }
  | .inlm => { m with inlm := true }

/-- Set one mode bit of `STATE` (R221). -/
def State.setMode (s : State) (b : ModeBit) : State :=
  s.setModes (withMode s.word.modes b)

end Sys2Proof.Machine
end

