-- ==== Sys2Proof/Machine/Mode.lean ====
section
/-! DEFINITION. Set Mode, Reset Mode, their parameter instructions and the mode-change hook (45_modes.md R220 to R229). A
parameter instruction writes its bit of `STATE` and nothing else; SM and RM run one for each parameter, then the hook on the
delta, then `Cancel()` (41_escape.md R141). -/

namespace Sys2Proof.Machine

/-- SM 1 sets CKM (R221). -/
def execSmCkm (s : State) : Out :=
  .next (s.setMode .ckm)

/-- SM 2 sets ANM (R221). -/
def execSmAnm (s : State) : Out :=
  .next (s.setMode .anm)

/-- SM 3 sets COLM (R221). -/
def execSmColm (s : State) : Out :=
  .next (s.setMode .colm)

/-- SM 4 sets SCLM (R221). -/
def execSmSclm (s : State) : Out :=
  .next (s.setMode .sclm)

/-- SM 5 sets SCNM (R221). -/
def execSmScnm (s : State) : Out :=
  .next (s.setMode .scnm)

/-- SM 6 sets OM (R221). -/
def execSmOm (s : State) : Out :=
  .next (s.setMode .om)

/-- SM 7 sets AWM (R221). -/
def execSmAwm (s : State) : Out :=
  .next (s.setMode .awm)

/-- SM 8 sets ARM (R221). -/
def execSmArm (s : State) : Out :=
  .next (s.setMode .arm)

/-- SM 9 sets INLM (R221). -/
def execSmInlm (s : State) : Out :=
  .next (s.setMode .inlm)

/-- SM 20 sets LNM (R221). -/
def execSmLnm (s : State) : Out :=
  .next (s.setMode .lnm)

/-- SM 25 clears CURINV (R222). -/
def execSm25 (s : State) : Out :=
  .next (s.setCurinv false)

/-- Every other SM value (R223). -/
def execSmIgnored (_p : Nat) (s : State) : Out :=
  .next s

/-- RM 25 clears CURINV (R227). -/
def execRm25 (s : State) : Out :=
  .next (s.setCurinv false)

/-- Every other RM value (R227). -/
def execRmIgnored (_p : Nat) (s : State) : Out :=
  .next s

/-- `SMParam(p)`: the value selects its parameter instruction (R220 to R223). -/
def smParam (p : Nat) (s : State) : Out :=
  match p with
  | 1 => execSmCkm s
  | 2 => execSmAnm s
  | 3 => execSmColm s
  | 4 => execSmSclm s
  | 5 => execSmScnm s
  | 6 => execSmOm s
  | 7 => execSmAwm s
  | 8 => execSmArm s
  | 9 => execSmInlm s
  | 20 => execSmLnm s
  | 25 => execSm25 s
  | _ => execSmIgnored p s

/-- The body of RM's loop (R227). -/
def rmParam (p : Nat) (s : State) : Out :=
  if p = 25 then execRm25 s else execRmIgnored p s

/-- `ColmEffect()` (R225). -/
def colmEffect (s : State) : Out :=
  let t := ((s.setCursor 0 0).emit .invCursor).setRegion 0 (s.params.rows - 1)
  eraseCells 0 0 (s.params.rows - 1) (s.params.cols - 1) (t.setShort false)

/-- `OmEffect()` (R226). -/
def omEffect (s : State) : Out :=
  .next ((s.setCursor (if s.word.modes.om then s.scrollMin else 0) 0).emit .invCursor)

/-- `ModeHook(delta)`: COLM before OM (R224). -/
def modeHook (delta : StateWord) (s : State) : Out :=
  andThen (if delta.modes.colm then colmEffect s else .next s)
    (fun t => if delta.modes.om then omEffect t else .next t)

/-- Run the parameters with `f`, then the hook on the XOR of the old and the new state word (R220, R227). -/
def walkModes (f : Nat → State → Out) (ps : List Nat) (s : State) : Out :=
  andThen (walk f ps s) (fun t => modeHook (StateWord.xor s.word t.word) t)

/-- `SM(P)` (R220). -/
def sm (ps : List Nat) (s : State) : Out :=
  walkModes smParam ps s

/-- The instruction SM. -/
def execSm (ps : List Nat) (s : State) : Out :=
  thenCancel (sm ps s)

/-- `RM(P)` (R227). -/
def rm (ps : List Nat) (s : State) : Out :=
  walkModes rmParam ps s

/-- The instruction RM. -/
def execRm (ps : List Nat) (s : State) : Out :=
  thenCancel (rm ps s)

end Sys2Proof.Machine
end

