-- ==== Sys2Proof/Machine/Sgr.lean ====
section
/-! DEFINITION. SGR and its parameter instructions (44_sgr.md R200 to R217). A parameter instruction changes `CUR_ATTR`, or
`STATE.ALTCS`, and nothing else; SGR runs one for each parameter and then `Cancel()` (41_escape.md R141). -/

namespace Sys2Proof.Machine

/-- SGR 0: `CUR_ATTR` becomes NORMAL (R201). -/
def execSgr0 (s : State) : Out :=
  .next (s.setCurAttr (normalAttr s.params))

/-- SGR 1, 2 and 4 (R202). -/
def execSgrBold (_p : Nat) (s : State) : Out :=
  .next (s.setCurAttr { s.curAttr with bold := true })

/-- SGR 5 (R203). -/
def execSgrBlink (s : State) : Out :=
  .next (s.setCurAttr { s.curAttr with blink := true })

/-- SGR 7 and 27 both set REVERSE (R204). -/
def execSgrReverse (_p : Nat) (s : State) : Out :=
  .next (s.setCurAttr { s.curAttr with reverse := true })

/-- SGR 8 (R205). -/
def execSgrInvisible (s : State) : Out :=
  .next (s.setCurAttr { s.curAttr with invisible := true })

/-- SGR 10 (R206). -/
def execSgrPrimary (s : State) : Out :=
  .next (s.setAltcs false)

/-- SGR 11 (R207). -/
def execSgrAltcs (s : State) : Out :=
  .next (s.setAltcs true)

/-- SGR 22 and 24 (R208). -/
def execSgrBoldOff (_p : Nat) (s : State) : Out :=
  .next (s.setCurAttr { s.curAttr with bold := false })

/-- SGR 25 (R209). -/
def execSgrBlinkOff (s : State) : Out :=
  .next (s.setCurAttr { s.curAttr with blink := false })

/-- SGR 28 (R210). -/
def execSgrInvisibleOff (s : State) : Out :=
  .next (s.setCurAttr { s.curAttr with invisible := false })

/-- SGR 30 to 37 (R211). -/
def execSgrFg (p : Nat) (s : State) : Out :=
  .next (s.setCurAttr { s.curAttr with fg := BitVec.ofNat 4 (p - 30) })

/-- SGR 39 (R212). -/
def execSgrFgDefault (s : State) : Out :=
  .next (s.setCurAttr { s.curAttr with fg := s.params.defaultFg })

/-- SGR 40 to 47 (R213). -/
def execSgrBg (p : Nat) (s : State) : Out :=
  .next (s.setCurAttr { s.curAttr with bg := BitVec.ofNat 4 (p - 40) })

/-- SGR 49 (R214). -/
def execSgrBgDefault (s : State) : Out :=
  .next (s.setCurAttr { s.curAttr with bg := s.params.defaultBg })

/-- Every other SGR value (R215). -/
def execSgrIgnored (_p : Nat) (s : State) : Out :=
  .next s

/-- `SGRParam(p)`: the value selects its parameter instruction (R200 to R215). -/
def sgrParam (p : Nat) (s : State) : Out :=
  if p = 0 then execSgr0 s
  else if p = 1 ∨ p = 2 ∨ p = 4 then execSgrBold p s
  else if p = 5 then execSgrBlink s
  else if p = 7 ∨ p = 27 then execSgrReverse p s
  else if p = 8 then execSgrInvisible s
  else if p = 10 then execSgrPrimary s
  else if p = 11 then execSgrAltcs s
  else if p = 22 ∨ p = 24 then execSgrBoldOff p s
  else if p = 25 then execSgrBlinkOff s
  else if p = 28 then execSgrInvisibleOff s
  else if 30 ≤ p ∧ p ≤ 37 then execSgrFg p s
  else if p = 39 then execSgrFgDefault s
  else if 40 ≤ p ∧ p ≤ 47 then execSgrBg p s
  else if p = 49 then execSgrBgDefault s
  else execSgrIgnored p s

/-- `SGR(P)`: NORMAL for the empty list, else the parameters left to right (R200). -/
def sgr (ps : List Nat) (s : State) : Out :=
  if ps.isEmpty then .next (s.setCurAttr (normalAttr s.params)) else walk sgrParam ps s

/-- The instruction SGR. -/
def execSgr (ps : List Nat) (s : State) : Out :=
  thenCancel (sgr ps s)

end Sys2Proof.Machine
end

