-- ==== Sys2Proof/Machine/Csi.lean ====
section
/-! DEFINITION. `CSIDispatch` (43_csi.md R160). -/

namespace Sys2Proof.Machine

/-- The case on the verb, given the parameter list (R160). -/
def csiVerb (ps : List Nat) (v : Byte) (s : State) : Out :=
  match v.toNat with
  | 0x6D => sgr ps s
  | 0x68 => sm ps s
  | 0x6C => rm ps s
  | 0x4A => ed ps s
  | 0x48 => cup ps s
  | 0x66 => hvp ps s
  | 0x41 => cuu ps s
  | 0x42 => cud ps s
  | 0x43 => cuf ps s
  | 0x44 => cub ps s
  | 0x45 => cnl ps s
  | 0x46 => cpl ps s
  | 0x47 => cha ps s
  | 0x65 => vpr ps s
  | 0x61 => hpr ps s
  | 0x64 => vpa ps s
  | 0x60 => hpa ps s
  | 0x4B => el ps s
  | 0x40 => ich ps s
  | 0x50 => dch ps s
  | 0x4C => il ps s
  | 0x4D => dl ps s
  | 0x58 => ech ps s
  | 0x72 => decstbm ps s
  | 0x73 => scp s
  | 0x75 => rcp s
  | _ => .next s

/-- `CSIDispatch()` on the text after '[', its last byte the verb (R160; 30_encoding.md R80). -/
def csiDispatch (text : List Byte) (s : State) : Out :=
  match text.getLast? with
  | none => .next s
  | some v => csiVerb (parseParams text.dropLast) v s

end Sys2Proof.Machine
end

