-- ==== Sys2Proof/Machine/Escape.lean ====
section
/-! DEFINITION. The escape sequences (41_escape.md R132 to R143). An instruction that completes a sequence runs its operation
and then `Cancel()`; one whose byte leaves the sequence open appends that byte (40_parser_control.md R104). -/

namespace Sys2Proof.Machine

/-- IND (R132). -/
def execInd (s : State) : Out :=
  thenCancel (index s)

/-- NEL (R134). -/
def execNel (s : State) : Out :=
  thenCancel (index (s.setCursor s.row 0))

/-- RI (R133). -/
def execRi (s : State) : Out :=
  thenCancel (reverseIndex s)

/-- `DECSC()` (R135). -/
def saveCursor (s : State) : State :=
  s.setSave s.row s.col s.curAttr s.word.altcs

/-- DECSC (R135). -/
def execDecsc (s : State) : Out :=
  thenCancel (.next (saveCursor s))

/-- `DECRC()` (R136). -/
def restoreCursor (s : State) : State :=
  (((s.setCursor s.saveRow s.saveCol).setCurAttr s.saveAttr).setAltcs s.word.savedAltcs).emit .invCursor

/-- DECRC (R136). -/
def execDecrc (s : State) : Out :=
  thenCancel (.next (restoreCursor s))

/-- `DECALN()`: the test character with the current attribute, `ALTCS = 0`, in every cell (R137). -/
def alignmentFill (s : State) : State :=
  (s.fillGrid (fun _ _ => { ch := s.params.decalnChar, attr := { s.curAttr with altcs := false } })).emit .invScreen

/-- DECALN (R137). -/
def execDecaln (s : State) : Out :=
  thenCancel (.next (alignmentFill s))

/-- ESC # F, F not 8: nothing until F arrives, then `Cancel()` (R131, R138). -/
def execEscHashOther (f : Option Byte) (s : State) : Out :=
  match f with
  | none => .next (accumulate 0x23 s)
  | some _ => .next (cancel s)

/-- ESC ( F: nothing until F arrives, then `Cancel()` (R131, R139). -/
def execScsG0 (f : Option Byte) (s : State) : Out :=
  match f with
  | none => .next (accumulate 0x28 s)
  | some _ => .next (cancel s)

/-- ESC ) F, exactly SCS-G0 (R131, R140). -/
def execScsG1 (f : Option Byte) (s : State) : Out :=
  match f with
  | none => .next (accumulate 0x29 s)
  | some _ => .next (cancel s)

/-- CSI: while no final-class byte has arrived, nothing but the append; on the first one, `CSIDispatch()`, then `Cancel()`
(R141). The decoder reads a final-class byte as its verb's own instruction, so the dispatch here is the same meaning by the
other road. -/
def execCsi (b : Option Byte) (s : State) : Out :=
  match b with
  | none => .next (accumulate 0x5B s)
  | some v =>
    if isFinal v then thenCancel (csiDispatch (s.acc.tail ++ [v]) s)
    else .next (accumulate v s)

/-- OSC: each payload byte is appended and not interpreted (R142). -/
def execOsc (t : Option Byte) (s : State) : Out :=
  match t with
  | none => .next (accumulate 0x5D s)
  | some b => .next (accumulate b s)

/-- ESC F for any other F: `Cancel()` (R143). -/
def execEscUnrecognised (_f : Byte) (s : State) : Out :=
  .next (cancel s)

end Sys2Proof.Machine
end

