-- ==== Sys2Proof/Machine/Keyboard.lean ====
section
/-! DEFINITION. The keyboard encoder (46_keyboard.md R240 to R250). The modifiers of an event are not read (R249). -/

namespace Sys2Proof.Machine

/-- `ArrowSeq` for the arrow letter `x` (R243, R244). -/
def arrowSeq (x : Byte) (s : State) : List Byte :=
  if s.word.modes.anm then
    if s.word.modes.ckm then [0x1B, 0x4F, x] else [0x1B, 0x5B, x]
  else [0x1B, x]

/-- The keymap of the selected profile (R240, R245). -/
def State.keymap (s : State) : Keymap :=
  match s.profile with
  | .minimal => s.params.keymapMinimal
  | .rich => s.params.keymapRich

/-- The string of a key in a keymap; the empty string where it has no entry (R248). -/
def keyString (k : KeyIdent) : Keymap → List Byte
  | [] => []
  | (l, bs) :: rest => if l = k then bs else keyString k rest

/-- A profile-mapped key appends its string, or nothing if it has no entry (R240, R246 to R248). -/
def mappedKey (k : KeyIdent) (s : State) : State :=
  s.outBytes (keyString k s.keymap)

/-- KEY-CHAR: the byte itself (R242). -/
def execKeyChar (b : Byte) (_m : Mods) (s : State) : Out :=
  .next (s.outBytes [b])

/-- KEY-UP: the letter 0x41 (R243, R244). -/
def execKeyUp (_m : Mods) (s : State) : Out :=
  .next (s.outBytes (arrowSeq 0x41 s))

/-- KEY-DOWN: the letter 0x42 (R243, R244). -/
def execKeyDown (_m : Mods) (s : State) : Out :=
  .next (s.outBytes (arrowSeq 0x42 s))

/-- KEY-RIGHT: the letter 0x43 (R243, R244). -/
def execKeyRight (_m : Mods) (s : State) : Out :=
  .next (s.outBytes (arrowSeq 0x43 s))

/-- KEY-LEFT: the letter 0x44 (R243, R244). -/
def execKeyLeft (_m : Mods) (s : State) : Out :=
  .next (s.outBytes (arrowSeq 0x44 s))

/-- KEY-F1 (R240, R246 to R248). -/
def execKeyF1 (_m : Mods) (s : State) : Out :=
  .next (mappedKey .f1 s)

/-- KEY-F2 (R240, R246 to R248). -/
def execKeyF2 (_m : Mods) (s : State) : Out :=
  .next (mappedKey .f2 s)

/-- KEY-F3 (R240, R246 to R248). -/
def execKeyF3 (_m : Mods) (s : State) : Out :=
  .next (mappedKey .f3 s)

/-- KEY-F4 (R240, R246 to R248). -/
def execKeyF4 (_m : Mods) (s : State) : Out :=
  .next (mappedKey .f4 s)

/-- KEY-F5 (R240, R246 to R248). -/
def execKeyF5 (_m : Mods) (s : State) : Out :=
  .next (mappedKey .f5 s)

/-- KEY-F6 (R240, R246 to R248). -/
def execKeyF6 (_m : Mods) (s : State) : Out :=
  .next (mappedKey .f6 s)

/-- KEY-F7 (R240, R246 to R248). -/
def execKeyF7 (_m : Mods) (s : State) : Out :=
  .next (mappedKey .f7 s)

/-- KEY-F8 (R240, R246 to R248). -/
def execKeyF8 (_m : Mods) (s : State) : Out :=
  .next (mappedKey .f8 s)

/-- KEY-F9 (R240, R246 to R248). -/
def execKeyF9 (_m : Mods) (s : State) : Out :=
  .next (mappedKey .f9 s)

/-- KEY-F10 (R240, R246 to R248). -/
def execKeyF10 (_m : Mods) (s : State) : Out :=
  .next (mappedKey .f10 s)

/-- KEY-F11 (R240, R246 to R248). -/
def execKeyF11 (_m : Mods) (s : State) : Out :=
  .next (mappedKey .f11 s)

/-- KEY-F12 (R240, R246 to R248). -/
def execKeyF12 (_m : Mods) (s : State) : Out :=
  .next (mappedKey .f12 s)

/-- KEY-INSERT (R240, R246 to R248). -/
def execKeyInsert (_m : Mods) (s : State) : Out :=
  .next (mappedKey .insert s)

/-- KEY-DELETE (R240, R246 to R248). -/
def execKeyDelete (_m : Mods) (s : State) : Out :=
  .next (mappedKey .delete s)

/-- KEY-HOME (R240, R246 to R248). -/
def execKeyHome (_m : Mods) (s : State) : Out :=
  .next (mappedKey .home s)

/-- KEY-END (R240, R246 to R248). -/
def execKeyEnd (_m : Mods) (s : State) : Out :=
  .next (mappedKey .endKey s)

/-- KEY-PAGEUP (R240, R246 to R248). -/
def execKeyPageUp (_m : Mods) (s : State) : Out :=
  .next (mappedKey .pageUp s)

/-- KEY-PAGEDOWN (R240, R246 to R248). -/
def execKeyPageDown (_m : Mods) (s : State) : Out :=
  .next (mappedKey .pageDown s)

/-- KEY-SUSPEND (R240, R246 to R248). -/
def execKeySuspend (_m : Mods) (s : State) : Out :=
  .next (mappedKey .suspend s)

/-- KEY-NULL appends nothing (R249). -/
def execKeyNull (_m : Mods) (s : State) : Out :=
  .next s

/-- KEY-RELEASED appends nothing (R249). -/
def execKeyReleased (_k : KeyIdent) (_m : Mods) (s : State) : Out :=
  .next s

end Sys2Proof.Machine
end

