-- ==== Sys2Proof/Machine/Print.lean ====
section
/-! DEFINITION. Put-Char (42_putchar.md R150 to R155). -/

namespace Sys2Proof.Machine

/-- Part 1 of Put-Char: resolve a pending wrap (R151). -/
def resolveWrap (s : State) : Out :=
  if s.col = s.params.cols then
    if s.word.modes.awm then index (s.setCursor s.row 0)
    else .next (s.setCursor s.row (s.params.cols - 1))
  else .next s

/-- Store a cell at the cursor and report it (R150, R152). -/
def writeAtCursor (v : Cell) (s : State) : Out :=
  andThen (memWrite s.row s.col v s) (fun t => .next (t.emit (.invCell s.row s.col)))

/-- Part 2 of Put-Char: write the cell, subject to the alternate character set (R152). A rejected byte rewrites the
attribute alone, or nothing, as `ALTCS_REJECT_WRITES_ATTR` says. -/
def writeGlyph (b : Byte) (s : State) : Out :=
  if s.word.altcs && !s.params.altcsSet.contains b then
    if s.params.altcsRejectWritesAttr then
      writeAtCursor { ch := (s.rawCell s.row s.col).ch, attr := { s.curAttr with altcs := true } } s
    else .next s
  else writeAtCursor { ch := b, attr := { s.curAttr with altcs := s.word.altcs } } s

/-- Part 3 of Put-Char: advance, with the trailing-space quirk (R153). -/
def advance (b : Byte) (s : State) : State :=
  s.setCursor s.row
    (if s.col + 1 = s.params.cols ∧ b = 0x20 then s.params.cols - 1 else s.col + 1)

/-- `PutChar(b)` (R150). -/
def putChar (b : Byte) (s : State) : Out :=
  andThen (andThen (resolveWrap s) (writeGlyph b)) (fun t => .next (advance b t))

/-- PRINT b (R150). -/
def execPrint (b : Byte) (s : State) : Out :=
  putChar b s

end Sys2Proof.Machine
end

