-- ==== Sys2Proof/Machine/Dispatch.lean ====
section
/-! DEFINITION. The dispatch: one arm per instruction. -/

namespace Sys2Proof.Machine

def exec (i : Instr) (s : State) : Host.Outcome State Fault Refusal :=
  match i with
  | .nul => Sys2Proof.Machine.execNul s
  | .c0Nop01 => Sys2Proof.Machine.execC0Nop01 s
  | .c0Nop02 => Sys2Proof.Machine.execC0Nop02 s
  | .c0Nop03 => Sys2Proof.Machine.execC0Nop03 s
  | .c0Nop04 => Sys2Proof.Machine.execC0Nop04 s
  | .c0Nop05 => Sys2Proof.Machine.execC0Nop05 s
  | .c0Nop06 => Sys2Proof.Machine.execC0Nop06 s
  | .bel => Sys2Proof.Machine.execBel s
  | .bs => Sys2Proof.Machine.execBs s
  | .ht => Sys2Proof.Machine.execHt s
  | .lf => Sys2Proof.Machine.execLf s
  | .vt => Sys2Proof.Machine.execVt s
  | .ff => Sys2Proof.Machine.execFf s
  | .cr => Sys2Proof.Machine.execCr s
  | .so => Sys2Proof.Machine.execSo s
  | .si => Sys2Proof.Machine.execSi s
  | .c0Nop10 => Sys2Proof.Machine.execC0Nop10 s
  | .c0Nop11 => Sys2Proof.Machine.execC0Nop11 s
  | .c0Nop12 => Sys2Proof.Machine.execC0Nop12 s
  | .c0Nop13 => Sys2Proof.Machine.execC0Nop13 s
  | .c0Nop14 => Sys2Proof.Machine.execC0Nop14 s
  | .c0Nop15 => Sys2Proof.Machine.execC0Nop15 s
  | .c0Nop16 => Sys2Proof.Machine.execC0Nop16 s
  | .c0Nop17 => Sys2Proof.Machine.execC0Nop17 s
  | .can => Sys2Proof.Machine.execCan s
  | .c0Nop19 => Sys2Proof.Machine.execC0Nop19 s
  | .sub => Sys2Proof.Machine.execSub s
  | .esc => Sys2Proof.Machine.execEsc s
  | .c0Nop1C => Sys2Proof.Machine.execC0Nop1C s
  | .c0Nop1D => Sys2Proof.Machine.execC0Nop1D s
  | .c0Nop1E => Sys2Proof.Machine.execC0Nop1E s
  | .c0Nop1F => Sys2Proof.Machine.execC0Nop1F s
  | .csi8 => Sys2Proof.Machine.execCsi8 s
  | .oscEnd => Sys2Proof.Machine.execOscEnd s
  | .print b => Sys2Proof.Machine.execPrint b s
  | .ind => Sys2Proof.Machine.execInd s
  | .nel => Sys2Proof.Machine.execNel s
  | .ri => Sys2Proof.Machine.execRi s
  | .decsc => Sys2Proof.Machine.execDecsc s
  | .decrc => Sys2Proof.Machine.execDecrc s
  | .decaln => Sys2Proof.Machine.execDecaln s
  | .escHashOther f => Sys2Proof.Machine.execEscHashOther f s
  | .scsG0 f => Sys2Proof.Machine.execScsG0 f s
  | .scsG1 f => Sys2Proof.Machine.execScsG1 f s
  | .csi b => Sys2Proof.Machine.execCsi b s
  | .osc t => Sys2Proof.Machine.execOsc t s
  | .escUnrecognised f => Sys2Proof.Machine.execEscUnrecognised f s
  | .sgr ps => Sys2Proof.Machine.execSgr ps s
  | .sm ps => Sys2Proof.Machine.execSm ps s
  | .rm ps => Sys2Proof.Machine.execRm ps s
  | .ed ps => Sys2Proof.Machine.execEd ps s
  | .cup ps => Sys2Proof.Machine.execCup ps s
  | .hvp ps => Sys2Proof.Machine.execHvp ps s
  | .cuu ps => Sys2Proof.Machine.execCuu ps s
  | .cud ps => Sys2Proof.Machine.execCud ps s
  | .cuf ps => Sys2Proof.Machine.execCuf ps s
  | .cub ps => Sys2Proof.Machine.execCub ps s
  | .cnl ps => Sys2Proof.Machine.execCnl ps s
  | .cpl ps => Sys2Proof.Machine.execCpl ps s
  | .cha ps => Sys2Proof.Machine.execCha ps s
  | .vpr ps => Sys2Proof.Machine.execVpr ps s
  | .hpr ps => Sys2Proof.Machine.execHpr ps s
  | .vpa ps => Sys2Proof.Machine.execVpa ps s
  | .hpa ps => Sys2Proof.Machine.execHpa ps s
  | .el ps => Sys2Proof.Machine.execEl ps s
  | .ich ps => Sys2Proof.Machine.execIch ps s
  | .dch ps => Sys2Proof.Machine.execDch ps s
  | .il ps => Sys2Proof.Machine.execIl ps s
  | .dl ps => Sys2Proof.Machine.execDl ps s
  | .ech ps => Sys2Proof.Machine.execEch ps s
  | .decstbm ps => Sys2Proof.Machine.execDecstbm ps s
  | .scp => Sys2Proof.Machine.execScp s
  | .rcp => Sys2Proof.Machine.execRcp s
  | .csiUnrecognised v => Sys2Proof.Machine.execCsiUnrecognised v s
  | .sgr0 => Sys2Proof.Machine.execSgr0 s
  | .sgrBold p => Sys2Proof.Machine.execSgrBold p s
  | .sgrBlink => Sys2Proof.Machine.execSgrBlink s
  | .sgrReverse p => Sys2Proof.Machine.execSgrReverse p s
  | .sgrInvisible => Sys2Proof.Machine.execSgrInvisible s
  | .sgrPrimary => Sys2Proof.Machine.execSgrPrimary s
  | .sgrAltcs => Sys2Proof.Machine.execSgrAltcs s
  | .sgrBoldOff p => Sys2Proof.Machine.execSgrBoldOff p s
  | .sgrBlinkOff => Sys2Proof.Machine.execSgrBlinkOff s
  | .sgrInvisibleOff => Sys2Proof.Machine.execSgrInvisibleOff s
  | .sgrFg p => Sys2Proof.Machine.execSgrFg p s
  | .sgrFgDefault => Sys2Proof.Machine.execSgrFgDefault s
  | .sgrBg p => Sys2Proof.Machine.execSgrBg p s
  | .sgrBgDefault => Sys2Proof.Machine.execSgrBgDefault s
  | .sgrIgnored p => Sys2Proof.Machine.execSgrIgnored p s
  | .smCkm => Sys2Proof.Machine.execSmCkm s
  | .smAnm => Sys2Proof.Machine.execSmAnm s
  | .smColm => Sys2Proof.Machine.execSmColm s
  | .smSclm => Sys2Proof.Machine.execSmSclm s
  | .smScnm => Sys2Proof.Machine.execSmScnm s
  | .smOm => Sys2Proof.Machine.execSmOm s
  | .smAwm => Sys2Proof.Machine.execSmAwm s
  | .smArm => Sys2Proof.Machine.execSmArm s
  | .smInlm => Sys2Proof.Machine.execSmInlm s
  | .smLnm => Sys2Proof.Machine.execSmLnm s
  | .sm25 => Sys2Proof.Machine.execSm25 s
  | .smIgnored p => Sys2Proof.Machine.execSmIgnored p s
  | .rm25 => Sys2Proof.Machine.execRm25 s
  | .rmIgnored p => Sys2Proof.Machine.execRmIgnored p s
  | .keyChar b m => Sys2Proof.Machine.execKeyChar b m s
  | .keyUp m => Sys2Proof.Machine.execKeyUp m s
  | .keyDown m => Sys2Proof.Machine.execKeyDown m s
  | .keyRight m => Sys2Proof.Machine.execKeyRight m s
  | .keyLeft m => Sys2Proof.Machine.execKeyLeft m s
  | .keyF1 m => Sys2Proof.Machine.execKeyF1 m s
  | .keyF2 m => Sys2Proof.Machine.execKeyF2 m s
  | .keyF3 m => Sys2Proof.Machine.execKeyF3 m s
  | .keyF4 m => Sys2Proof.Machine.execKeyF4 m s
  | .keyF5 m => Sys2Proof.Machine.execKeyF5 m s
  | .keyF6 m => Sys2Proof.Machine.execKeyF6 m s
  | .keyF7 m => Sys2Proof.Machine.execKeyF7 m s
  | .keyF8 m => Sys2Proof.Machine.execKeyF8 m s
  | .keyF9 m => Sys2Proof.Machine.execKeyF9 m s
  | .keyF10 m => Sys2Proof.Machine.execKeyF10 m s
  | .keyF11 m => Sys2Proof.Machine.execKeyF11 m s
  | .keyF12 m => Sys2Proof.Machine.execKeyF12 m s
  | .keyInsert m => Sys2Proof.Machine.execKeyInsert m s
  | .keyDelete m => Sys2Proof.Machine.execKeyDelete m s
  | .keyHome m => Sys2Proof.Machine.execKeyHome m s
  | .keyEnd m => Sys2Proof.Machine.execKeyEnd m s
  | .keyPageUp m => Sys2Proof.Machine.execKeyPageUp m s
  | .keyPageDown m => Sys2Proof.Machine.execKeyPageDown m s
  | .keySuspend m => Sys2Proof.Machine.execKeySuspend m s
  | .keyNull m => Sys2Proof.Machine.execKeyNull m s
  | .keyReleased k m => Sys2Proof.Machine.execKeyReleased k m s

end Sys2Proof.Machine
end

