-- ==== Sys2Proof/Machine/Fetch.lean ====
section
/-! DEFINITION. Fetching: which instruction a host call runs. A byte that belongs to a sequence in progress is read with the
text of that sequence, which the accumulator holds (30_encoding.md R79); every other byte is read alone
(40_parser_control.md R100). -/

namespace Sys2Proof.Machine

/-- The byte ends an OSC in progress (40_parser_control.md R102). -/
def State.endsOsc (s : State) (b : Byte) : Bool :=
  s.word.esc && s.acc.head? == some 0x5D && b == 0x07

/-- The bytes of the form that the arriving byte `b` belongs to, the branches tried in the order of R100. -/
def fetchText (b : Byte) (s : State) : List Byte :=
  if b == 0x00 then [b]
  else if s.endsOsc b then 0x1B :: (s.acc ++ [b])
  else if isControl b then [b]
  else if s.word.esc then 0x1B :: (s.acc ++ [b])
  else [b]

/-- The instruction that the arriving byte runs. -/
def fetchInstr (b : Byte) (s : State) : Instr :=
  decodeAny (fetchText b s)

/-- What a host call asks of the machine: to run an instruction, to stand in a new state, or what R265 refuses. -/
inductive Request where
  | run (i : Instr)
  | stand (s : State)
  | refuse (r : Refusal)
  deriving DecidableEq, Repr

/-- The request of a host call served in state `s` (60_exceptions.md R265, R269). -/
def request (c : HostCall) (s : State) : Request :=
  match c with
  | .byte b => .run (fetchInstr b s)
  | .key ev =>
    match decode (.key ev) with
    | .ok i => .run i
    | .error _ => .refuse .badKey
  | .selectProfile p => .stand (s.setProfile p)
  | .invalidBuffer => .refuse .badBuffer
  | .reentrant => .refuse .reentrant

/-- The state in which the next step runs the instruction whose bytes are `l`: the last byte is delivered at `IN`, and the
bytes before it stand in the accumulator as the sequence in progress (log 10). Bytes that are not one form are delivered
one after another. -/
def placeBytes (l : List Byte) (s : State) : State :=
  match l.getLast?, l.dropLast with
  | none, _ => s
  | some b, [] => (s.setParser false []).setCalls (.byte b :: s.calls)
  | some b, lead :: text =>
    if lead == 0x1B then (s.setParser true text).setCalls (.byte b :: s.calls)
    else if lead == 0x9B then (s.setParser true (0x5B :: text)).setCalls (.byte b :: s.calls)
    else (s.setParser false []).setCalls (l.map .byte ++ s.calls)

end Sys2Proof.Machine
end

