-- ==== Sys2Proof/Machine/Step.lean ====
section
/-! DEFINITION. One step: the next host call is served (10_state.md R20, 60_exceptions.md R269). With no call pending the
block does nothing (70_reset_and_hazards.md R296, log 8). -/

namespace Sys2Proof.Machine

/-- One step. An instance whose parameters are not legal, which construction refuses, is refused (60_exceptions.md R265,
log 4). -/
def step (s : State) : Host.Outcome State Fault Refusal :=
  if s.params.ok then
    match s.calls with
    | [] => .next s
    | c :: rest =>
      match request c (s.setCalls rest) with
      | .run i => exec i (s.setCalls rest)
      | .stand t => .next t
      | .refuse r => .refused r
  else .refused .badParams

/-- The state `s` with the instruction of a table word placed where the next step fetches (log 10). -/
def State.withFetchWord (s : State) (nbits w : Nat) : State :=
  placeBytes (tableBytes (nbits / 8) w) s

end Sys2Proof.Machine
end

