-- ==== Sys2Proof/Machine/ByteStep.lean ====
section
/-! DEFINITION. The spec's own pseudocode of a step, transcribed branch by branch: `ByteStep`, `Control`, `Append`,
`Interpret` (40_parser_control.md R100, R104, R105; 41_escape.md R131) and `KeyStep` (46_keyboard.md R240). The machine's step
decodes and dispatches instead; that the two agree on every byte and key is a statement about them. -/

namespace Sys2Proof.Machine

/-- `Control(b)` (R105). -/
def controlByte (b : Byte) (s : State) : Out :=
  if b = 0x07 then .next (s.emit .bell)
  else if b = 0x08 then execBs s
  else if b = 0x09 then execHt s
  else if b = 0x0A ∨ b = 0x0B ∨ b = 0x0C then lineFeed s
  else if b = 0x0D then execCr s
  else if b = 0x0E then .next (s.setAltcs true)
  else if b = 0x0F then .next (s.setAltcs false)
  else if b = 0x9B then .next (s.setParser true [0x5B])
  else if b = 0x1B then .next (s.setParser true [])
  else if b = 0x18 ∨ b = 0x1A then .next (cancel s)
  else .next s

/-- `Interpret()` (R131); with an empty accumulator it is never called. -/
def interpret (s : State) : Out :=
  match s.acc with
  | [] => .next s
  | f :: rest =>
    if f = 0x4D then thenCancel (reverseIndex s)
    else if f = 0x44 then thenCancel (index s)
    else if f = 0x45 then thenCancel (index (s.setCursor s.row 0))
    else if f = 0x37 then .next (cancel (saveCursor s))
    else if f = 0x38 then .next (cancel (restoreCursor s))
    else if f = 0x23 then
      match rest with
      | [] => .next s
      | g :: _ => if g = 0x38 then .next (cancel (alignmentFill s)) else .next (cancel s)
    else if f = 0x28 ∨ f = 0x29 then
      match rest with
      | [] => .next s
      | _ :: _ => .next (cancel s)
    else if f = 0x5B then
      match rest.getLast? with
      | none => .next s
      | some v => if isFinal v then thenCancel (csiDispatch rest s) else .next s
    else if f = 0x5D then .next s
    else .next (cancel s)

/-- `Append(b)` (R104). -/
def appendByte (b : Byte) (s : State) : Out :=
  andThen (interpret (push b s)) (fun t => .next (boundCheck t))

/-- `ByteStep(b)` (R100). -/
def byteStep (b : Byte) (s : State) : Out :=
  if b = 0x00 then .next s
  else if s.endsOsc b then .next (cancel s)
  else if isControl b then controlByte b s
  else if s.word.esc then appendByte b s
  else putChar b s

/-- The key branches of `KeyStep` for a pressed key (R240). -/
def pressedKeyStep (k : KeyIdent) (s : State) : State :=
  match k with
  | .null => s
  | .char b => s.outBytes [b]
  | .up => s.outBytes (arrowSeq 0x41 s)
  | .down => s.outBytes (arrowSeq 0x42 s)
  | .right => s.outBytes (arrowSeq 0x43 s)
  | .left => s.outBytes (arrowSeq 0x44 s)
  | other => mappedKey other s

/-- `KeyStep(ev)` (R240), refusing an identifier outside 30_encoding.md R89 (60_exceptions.md R265). -/
def keyStep (ev : KeyEvent) (s : State) : Out :=
  if isKnownKey ev.key then
    if ev.pressed then .next (pressedKeyStep ev.key s) else .next s
  else .refused .badKey

end Sys2Proof.Machine
end

