-- ==== Sys2Proof/Safety.lean ====
section
/-! DEFINITION. What counts as a safe state and a safe step, in the terms the statements use: the invariant of 10_state.md
R38 (with R25 to R33), and the covering property of the sink events (R35). -/

namespace Sys2Proof.Machine

/-- The accumulator of a sequence in progress (10_state.md R31): nothing yet; a CSI body with no final-class byte; an OSC
payload; or the first byte of a two-byte form. Its bytes are graphic (R30). -/
def accShape : List Byte → Bool
  | [] => true
  | f :: rest =>
    if f == 0x5B then rest.all (fun b => isGraphic b && !isFinal b)
    else if f == 0x5D then rest.all isGraphic
    else (f == 0x23 || f == 0x28 || f == 0x29) && rest.isEmpty

/-- The grid is in its canonical form. -/
def State.memWf (s : State) : Bool :=
  Memory.wf (resetCell s.params) s.size s.grid

/-- The scrolling region is the full height. -/
def State.fullRegion (s : State) : Bool :=
  s.scrollMin == 0 && s.scrollMax == s.params.rows - 1

/-- What holds at every step boundary (10_state.md R38). -/
structure StateInv (s : State) : Prop where
  /-- the parameters are legal (00_scope.md R9; 46_keyboard.md R248) -/
  paramsOk : s.params.ok = true
  /-- R25 -/
  rowLt : s.row < s.params.rows
  /-- R25 -/
  colLe : s.col ≤ s.params.cols
  /-- R26 -/
  regionLe : s.scrollMin ≤ s.scrollMax
  /-- R26 -/
  scrollMaxLt : s.scrollMax < s.params.rows
  /-- R32 -/
  saveRowLt : s.saveRow < s.params.rows
  /-- R32 -/
  saveColLe : s.saveCol ≤ s.params.cols
  /-- R33 -/
  csrRowLt : s.csrRow < s.params.rows
  /-- R33 -/
  csrColLe : s.csrCol ≤ s.params.cols
  /-- SHORT says that the region is not the full height (R38) -/
  shortIff : s.word.short = !s.fullRegion
  /-- R28 -/
  curAltcs : s.curAttr.altcs = false
  /-- R32 -/
  saveAltcs : s.saveAttr.altcs = false
  /-- no rule sets CURINV (R29; 45_modes.md R222) -/
  curinvClear : s.word.curinv = false
  /-- R30 -/
  accNormal : s.word.esc = false → s.acc = []
  /-- R30 -/
  accBound : s.word.esc = true → s.acc.length < s.params.accCap
  /-- R31 -/
  accForm : accShape s.acc = true
  /-- the model's canonical form of the grid -/
  gridWf : s.memWf = true

/-- The events that the step from `s` to `t` appended to `SINK`. -/
def newEvents (s t : State) : List SinkEvent :=
  t.sink.drop s.sink.length

/-- Every cell whose content changed is covered by an `InvCell` for it or an `InvScreen` (10_state.md R35). -/
def Covered (s t : State) : Prop :=
  ∀ r c, t.cellAt r c ≠ s.cellAt r c → .invCell r c ∈ newEvents s t ∨ .invScreen ∈ newEvents s t

/-- No mode bit that is 1 in `a` is 0 in `b`. -/
def modesKept (a b : Modes) : Prop :=
  ∀ m : ModeBit, modeOf a m = true → modeOf b m = true

/-- The host call keeps the host's duties (60_exceptions.md R269): a valid buffer, no overlap, a known key. -/
def HostCall.lawful : HostCall → Bool
  | .byte _ => true
  | .key ev => isKnownKey ev.key
  | .selectProfile _ => true
  | .invalidBuffer => false
  | .reentrant => false

/-! ### The grid between two states -/

/-- The addresses of the grid in row-major order (20_memory.md R50). -/
def State.addresses (s : State) : List (Nat × Nat) :=
  (List.range s.params.rows).flatMap (fun r => (List.range s.params.cols).map (fun c => (r, c)))

/-- One `InvCell` for each grid address that satisfies `P`, in row-major order. -/
def State.cellEvents (s : State) (P : Nat → Nat → Bool) : List SinkEvent :=
  (s.addresses.filter (fun a => P a.1 a.2)).map (fun a => .invCell a.1 a.2)

/-- `t` has the cells of `s`, but the cells that satisfy `P` hold the blank of `s` (20_memory.md R55). -/
def Erased (P : Nat → Nat → Bool) (s t : State) : Prop :=
  ∀ r c, t.cellAt r c = if s.inGrid r c = true ∧ P r c = true then some s.blank else s.cellAt r c

/-- `t` has the cells of `s` with rows `top` to `bot` moved up by `n`, blank rows entering at the bottom (20_memory.md
R56). -/
def ShiftedUp (top bot n : Nat) (s t : State) : Prop :=
  ∀ r c, t.cellAt r c =
    if s.inGrid r c = true ∧ top ≤ r ∧ r ≤ bot then (if r + n ≤ bot then s.cellAt (r + n) c else some s.blank)
    else s.cellAt r c

/-- `t` has the cells of `s` with rows `top` to `bot` moved down by `n`, blank rows entering at the top (20_memory.md
R56). -/
def ShiftedDown (top bot n : Nat) (s t : State) : Prop :=
  ∀ r c, t.cellAt r c =
    if s.inGrid r c = true ∧ top ≤ r ∧ r ≤ bot then (if top + n ≤ r then s.cellAt (r - n) c else some s.blank)
    else s.cellAt r c

/-! ### Several instructions, several bytes -/

/-- Run the instructions one after another. -/
def runAll : List Instr → State → Out
  | [], s => .next s
  | i :: rest, s => andThen (exec i s) (runAll rest)

/-- The byte steps of a buffer, one after another (40_parser_control.md R120). -/
def byteSteps : List Byte → State → Out
  | [], s => .next s
  | b :: rest, s => andThen (byteStep b s) (byteSteps rest)

/-- The parameter of SM that sets a mode bit (45_modes.md R221). -/
def modeNumber : ModeBit → Nat
  | .ckm => 1
  | .anm => 2
  | .colm => 3
  | .sclm => 4
  | .scnm => 5
  | .om => 6
  | .awm => 7
  | .arm => 8
  | .inlm => 9
  | .lnm => 20

/-! ### Which instructions may write what -/

/-- The instructions that may write a cell (10_state.md R24; 45_modes.md R225). -/
def writesGrid : Instr → Bool
  | .print _ | .lf | .vt | .ff | .ind | .nel | .ri | .decaln => true
  | .ed _ | .el _ | .ech _ | .ich _ | .dch _ | .il _ | .dl _ | .sm _ => true
  | _ => false

/-- The instructions that may move the cursor. -/
def movesCursor : Instr → Bool
  | .print _ | .bs | .ht | .lf | .vt | .ff | .cr | .ind | .nel | .ri | .decrc | .rcp | .sm _ => true
  | .cup _ | .hvp _ | .cuu _ | .cud _ | .cuf _ | .cub _ | .cnl _ | .cpl _ => true
  | .cha _ | .vpr _ | .hpr _ | .vpa _ | .hpa _ => true
  | _ => false

/-- The instructions that may write `CUR_ATTR` (10_state.md R28): DECRC, SGR and the parameter instructions of SGR. -/
def writesAttr : Instr → Bool
  | .decrc | .sgr _ | .sgr0 | .sgrBold _ | .sgrBlink | .sgrReverse _ | .sgrInvisible => true
  | .sgrBoldOff _ | .sgrBlinkOff | .sgrInvisibleOff => true
  | .sgrFg _ | .sgrFgDefault | .sgrBg _ | .sgrBgDefault => true
  | _ => false

/-- The instructions that end the sequence in progress with `Cancel()` (40_parser_control.md R102, R103, R117, R118;
41_escape.md R131): CAN, SUB, the end of an OSC, the completed escape sequences and every CSI command. -/
def endsSequence : Instr → Bool
  | .can | .sub | .oscEnd => true
  | .ind | .nel | .ri | .decsc | .decrc | .decaln => true
  | .escHashOther (some _) | .scsG0 (some _) | .scsG1 (some _) | .escUnrecognised _ => true
  | .sgr _ | .sm _ | .rm _ | .ed _ | .cup _ | .hvp _ | .cuu _ | .cud _ | .cuf _ | .cub _ | .cnl _ | .cpl _ => true
  | .cha _ | .vpr _ | .hpr _ | .vpa _ | .hpa _ | .el _ | .ich _ | .dch _ | .il _ | .dl _ | .ech _ | .decstbm _ => true
  | .scp | .rcp | .csiUnrecognised _ => true
  | _ => false

/-- The instructions whose byte leaves the sequence in progress open (40_parser_control.md R104). -/
def extendsSequence : Instr → Bool
  | .escHashOther none | .scsG0 none | .scsG1 none | .csi _ | .osc _ => true
  | _ => false

/-- The instructions of a key event (46_keyboard.md R240). -/
def isKeyInstr : Instr → Bool
  | .keyChar _ _ | .keyUp _ | .keyDown _ | .keyRight _ | .keyLeft _ => true
  | .keyF1 _ | .keyF2 _ | .keyF3 _ | .keyF4 _ | .keyF5 _ | .keyF6 _ => true
  | .keyF7 _ | .keyF8 _ | .keyF9 _ | .keyF10 _ | .keyF11 _ | .keyF12 _ => true
  | .keyInsert _ | .keyDelete _ | .keyHome _ | .keyEnd _ | .keyPageUp _ | .keyPageDown _ | .keySuspend _ => true
  | .keyNull _ | .keyReleased _ _ => true
  | _ => false

end Sys2Proof.Machine
end

