-- ==== Sys2Proof/Certificates/Slice0/Obligations.lean ====
section
/-! DEFINITION. The statements for the provers, in the order of the spec's sections: the host interface and the decoder, the
machine as a whole, and then every family of instructions. Where a statement says what an instruction does, it gives the
whole next state, so its frame is everything the record update does not name. -/

section

open Sys2Proof Sys2Proof.Machine

/-! ### Reset and host interface -/

/-- 10_state.md R37: the value of every piece of state after construction, for every parameter and profile; `STATE` both as
the record and as the bits of the packed word. -/
def Obligations.ResetValues : Prop :=
  (∀ (p : Params) (k : Profile) (s : State), s = State.construct p k →
    (∀ r c, s.cellAt r c =
      if r < p.rows ∧ c < p.cols then
        some { ch := 0x20, attr := { fg := p.defaultFg, bg := p.defaultBg, bold := false, blink := false,
                                     reverse := false, invisible := false, altcs := false } }
      else none) ∧
    s.row = 0 ∧ s.col = 0 ∧ s.scrollMin = 0 ∧ s.scrollMax = p.rows - 1 ∧
    s.curAttr = { fg := p.defaultFg, bg := p.defaultBg, bold := false, blink := false,
                  reverse := false, invisible := false, altcs := false } ∧
    (∀ i ∈ [0, 1, 2, 3, 14, 15], s.word.toWord.getLsbD i = false) ∧
    (∀ m : ModeBit, modeOf s.word.modes m = modeOf p.resetModes m) ∧
    (s.word.toWord.getLsbD 4 = p.resetModes.lnm ∧ s.word.toWord.getLsbD 5 = p.resetModes.ckm ∧
      s.word.toWord.getLsbD 6 = p.resetModes.anm ∧ s.word.toWord.getLsbD 7 = p.resetModes.colm ∧
      s.word.toWord.getLsbD 8 = p.resetModes.sclm ∧ s.word.toWord.getLsbD 9 = p.resetModes.scnm ∧
      s.word.toWord.getLsbD 10 = p.resetModes.om ∧ s.word.toWord.getLsbD 11 = p.resetModes.awm ∧
      s.word.toWord.getLsbD 12 = p.resetModes.arm ∧ s.word.toWord.getLsbD 13 = p.resetModes.inlm) ∧
    s.saveRow = 0 ∧ s.saveCol = 0 ∧ s.saveAttr = normalAttr p ∧ s.csrRow = 0 ∧ s.csrCol = 0 ∧
    s.acc.length = 0 ∧ s.sink = [] ∧ s.out = [] ∧ s.profile = k) ∧
  State.reset = State.construct Params.reference .minimal ∧
  (∀ m : ModeBit, modeOf Params.reference.resetModes m = false)

/-- 00_scope.md R9 with 46_keyboard.md R245, R248: an instance whose parameters break the ranges of R8, or whose keymaps hold an
empty string, is refused; every other one is constructed. That an empty string is refused at construction is log 1. -/
def Obligations.ConstructionChecksParameters : Prop :=
  ∀ (p : Params) (k : Profile), construct p k =
    if 1 ≤ p.rows ∧ 1 ≤ p.cols ∧ 2 ≤ p.accCap ∧ (∀ e ∈ p.keymapMinimal ++ p.keymapRich, e.2 ≠ []) then
      .next (State.construct p k)
    else .refused .badParams

/-- 60_exceptions.md R265: each of the four refusals, and no step after one. That a refused step ends the run, and that a state
with inconsistent parameters is refused at every step, is the model's choice (log 4), and so is the call that stands for an
overlapping step (log 5). -/
def Obligations.HostRefusals : Prop :=
  (∀ (s : State) (rest : List HostCall) (n : Nat), s.params.ok = true →
    (s.calls = render none ++ rest → core.run (n + 1) s = .refused .badBuffer) ∧
    (s.calls = .reentrant :: rest → core.run (n + 1) s = .refused .reentrant) ∧
    (∀ ev : KeyEvent, isKnownKey ev.key = false → s.calls = .key ev :: rest →
      core.run (n + 1) s = .refused .badKey)) ∧
  (∀ (p : Params) (k : Profile), p.ok = false → construct p k = .refused .badParams) ∧
  (∀ (s : State) (n : Nat), s.params.ok = false → core.run (n + 1) s = .refused .badParams)

/-- The model's step with no call pending (log 8), and the profile input of 10_state.md R36. -/
def Obligations.IdleAndProfileSteps : Prop :=
  ∀ s : State, s.params.ok = true →
    (s.calls = [] → step s = .next s) ∧
    (∀ (p : Profile) (rest : List HostCall), s.calls = .selectProfile p :: rest →
      step s = .next { s with profile := p, calls := rest })

/-- A step runs the decoded instruction: when the host's next call is a byte whose form, with the text of the sequence in
progress, decodes to `i`, or a key event that decodes to `i`, the step is `exec i` on the state with that call taken
(10_state.md R20; 30_encoding.md R79). -/
def Obligations.StepRunsTheDecodedInstruction : Prop :=
  ∀ (s : State) (c : HostCall) (rest : List HostCall) (i : Instr), s.params.ok = true → s.calls = c :: rest →
    ((∃ b, c = .byte b ∧ decode (.bytes (fetchText b s)) = .ok i) ∨
      (∃ ev, c = .key ev ∧ decode (.key ev) = .ok i)) →
    step s = exec i { s with calls := rest }

/-! ### Decoder -/

/-- Words written out from the encodings of 30_encoding.md R70 to R89, and what they stand for. -/
def Obligations.SampleWordsDecode : Prop :=
  decode (.bytes [0x09]) = .ok .ht ∧
  decode (.bytes [0x9B]) = .ok .csi8 ∧
  decode (.bytes [0x41]) = .ok (.print 0x41) ∧
  decode (.bytes [0x1B, 0x44]) = .ok .ind ∧
  decode (.bytes [0x1B, 0x23, 0x38]) = .ok .decaln ∧
  decode (.bytes [0x1B, 0x28, 0x30]) = .ok (.scsG0 (some 0x30)) ∧
  decode (.bytes [0x1B, 0x5D, 0x30, 0x3B, 0x74, 0x07]) = .ok .oscEnd ∧
  decode (.bytes [0x1B, 0x5B, 0x35, 0x3B, 0x31, 0x30, 0x48]) = .ok (.cup [5, 10]) ∧
  decode (.bytes [0x9B, 0x32, 0x41]) = .ok (.cuu [2]) ∧
  decode (.bytes [0x1B, 0x5B, 0x3F, 0x32, 0x35, 0x3B, 0x3B, 0x37, 0x68]) = .ok (.sm [25, 0, 7]) ∧
  decode (.bytes [0x1B, 0x5B, 0x3E, 0x32, 0x4A]) = .ok (.ed []) ∧
  decode (.param .sgr (some 34)) = .ok (.sgrFg 34) ∧
  decode (.param .sm (some 20)) = .ok .smLnm ∧
  decode (.key { key := .up, pressed := true, mods := ⟨false, false, true, false⟩ }) =
    .ok (.keyUp ⟨false, false, true, false⟩) ∧
  decode (.bytes [0x1B, 0x5B, 0x0D, 0x43]) = .error .controlInside ∧
  decode (.bytes [0x41, 0x42]) = .error .notALead

/-- Decoding the encoding of a well-formed instruction gives the instruction back, with every operand (30_encoding.md). -/
def Obligations.DecodeInvertsEncode : Prop :=
  ∀ i : Instr, WellFormed i = true → decode (encode i) = .ok i

/-- What the decoder accepts is well-formed; and the text that a step fetches in a state of the invariant is always one form,
so the step never runs the decoder outside its domain (30_encoding.md R71, R79). -/
def Obligations.DecoderIsSound : Prop :=
  (∀ (c : Code) (i : Instr), decode c = .ok i → WellFormed i = true) ∧
  (∀ (s : State) (b : Byte), StateInv s → decode (.bytes (fetchText b s)) = .ok (fetchInstr b s))

/-- 30_encoding.md R80: `ParseCSI` on the text of a CSI sequence. Its last byte is the verb. A body is an optional '?', then
fields of digits with ';' between them, then an ignored remainder that starts with no digit and no ';'. -/
def Obligations.ParameterTextIsRead : Prop :=
  (∀ (body : List Byte) (v : Byte), isFinal v = true →
    decodeSeq 0x5B (body ++ [v]) = decodeVerb (parseParams body) v) ∧
  ∀ (fields : List (List Byte)) (mark remainder : List Byte),
    (∀ f ∈ fields, ∀ d ∈ f, isDigit d = true) →
    (mark = [0x3F] ∨ (mark = [] ∧ (fields ≠ [[]] ∨ remainder.head? ≠ some 0x3F))) →
    fields ≠ [] →
    (∀ d, remainder.head? = some d → isParamByte d = false) →
    parseParams (mark ++ List.intercalate [0x3B] fields ++ remainder) =
      if fields = [[]] then []
      else fields.map (fun f => Nat.ofDigits 10 (f.map (fun d => d.toNat - 0x30)).reverse)

/-! ### The machine as a whole -/

/-- Every constructed instance with consistent parameters meets the invariant (10_state.md R37, R38). -/
def Obligations.ConstructedStatesMeetTheInvariant : Prop :=
  ∀ (p : Params) (k : Profile), p.ok = true → StateInv (State.construct p k)

/-- 10_state.md R38: every step keeps the invariant. -/
def Obligations.StepsKeepTheInvariant : Prop :=
  ∀ s t : State, StateInv s → step s = .next t → StateInv t

/-- 60_exceptions.md R260: on a call that keeps the host's duties, every step returns a next state. -/
def Obligations.LawfulCallsComplete : Prop :=
  ∀ (s : State) (c : HostCall) (rest : List HostCall), StateInv s → s.calls = c :: rest → c.lawful = true →
    ∃ t, step s = .next t ∧ t.calls = rest

/-- 40_parser_control.md R100, R104, R105 and 41_escape.md R131: the step on a byte, which decodes and dispatches, is the
spec's `ByteStep`, in every state. -/
def Obligations.StepIsByteStep : Prop :=
  ∀ (s : State) (b : Byte) (rest : List HostCall), s.params.ok = true → s.calls = .byte b :: rest →
    step s = byteStep b { s with calls := rest }

/-- 46_keyboard.md R240: the step on a key event is the spec's `KeyStep`, and it writes `OUT` only. -/
def Obligations.StepIsKeyStep : Prop :=
  ∀ (s : State) (ev : KeyEvent) (rest : List HostCall), s.params.ok = true → s.calls = .key ev :: rest →
    step s = keyStep ev { s with calls := rest } ∧
    (∀ t, step s = .next t → ∃ bs, t = { s with calls := rest, out := s.out ++ bs })

/-- 40_parser_control.md R120: `render` of a buffer is the byte steps of its bytes in order; how the host splits a stream
into buffers makes no difference, which R120 marks as its own inference; an empty buffer changes nothing; a null or invalid
buffer is refused. That `render` is the calls of its bytes, one a step, is the model's choice (log 5). -/
def Obligations.RenderIsByteSteps : Prop :=
  (∀ (s : State) (buf : List Byte), s.params.ok = true →
    core.run buf.length { s with calls := render (some buf) } = byteSteps buf { s with calls := [] }) ∧
  (∀ (s t : State) (xs ys : List Byte), s.params.ok = true →
    core.run xs.length { s with calls := render (some xs) } = .next t →
    core.run (xs ++ ys).length { s with calls := render (some (xs ++ ys)) } =
      core.run ys.length { t with calls := render (some ys) }) ∧
  render (some []) = [] ∧
  (∀ s : State, s.params.ok = true → step { s with calls := render none } = .refused .badBuffer)

/-- The covering property of 10_state.md R35: every cell whose content changed in a step is reported in the same step. -/
def Obligations.ChangedCellsAreReported : Prop :=
  ∀ s t : State, step s = .next t → Covered s t

/-- 70_reset_and_hazards.md R294, which the spec marks as its own inference: no step clears a mode bit, and the COLM and OM side
effects happen only on an SM that sets their bit. An SM that finds COLM set leaves the grid and the region; one that finds OM
set does not move the cursor or emit anything but by the COLM side effect; one that finds both set changes mode bits, `CURINV`
and the parser only. -/
def Obligations.OneWayModes : Prop :=
  (∀ s t : State, step s = .next t → modesKept s.word.modes t.word.modes) ∧
  (∀ (s t : State) (ps : List Nat), exec (.sm ps) s = .next t →
    (s.word.modes.colm = true →
      t.grid = s.grid ∧ t.scrollMin = s.scrollMin ∧ t.scrollMax = s.scrollMax ∧ t.word.short = s.word.short) ∧
    (s.word.modes.om = true → t.word.modes.colm = s.word.modes.colm →
      t.row = s.row ∧ t.col = s.col ∧ t.sink = s.sink) ∧
    (s.word.modes.om = true → t.word.modes.colm ≠ s.word.modes.colm →
      t.row = 0 ∧ t.col = 0 ∧ t.sink = s.sink ++ .invCursor :: s.cellEvents (fun _ _ => true)) ∧
    (s.word.modes.colm = true → s.word.modes.om = true →
      t = { s with acc := [], word := { s.word with esc := false, modes := t.word.modes,
                                                    curinv := s.word.curinv && !ps.contains 25 } }))

/-- 10_state.md R34: both streams only grow, and no step reads them: with anything before what they hold, the step does the
same. -/
def Obligations.StreamsGrowUnread : Prop :=
  (∀ s t : State, step s = .next t → s.sink <+: t.sink ∧ s.out <+: t.out) ∧
  (∀ (s t : State) (es : List SinkEvent) (bs : List Byte), step s = .next t →
    step { s with sink := es ++ s.sink, out := bs ++ s.out } =
      .next { t with sink := es ++ t.sink, out := bs ++ t.out }) ∧
  State.reset.sink = [] ∧ State.reset.out = []

/-- A byte step writes neither `OUT` (43_csi.md R188) nor `KBD_PROFILE` (10_state.md R36), and no step changes a parameter
(00_scope.md R8). Of the instructions, those of a key event write `OUT` and nothing else, and the others do not write it. -/
def Obligations.InputPathWritesNoOutput : Prop :=
  (∀ (s t : State) (b : Byte) (rest : List HostCall), s.calls = .byte b :: rest → step s = .next t →
    t.out = s.out ∧ t.profile = s.profile ∧ t.calls = rest) ∧
  (∀ s t : State, step s = .next t → t.params = s.params) ∧
  (∀ (i : Instr) (s t : State), WellFormed i = true → exec i s = .next t →
    if isKeyInstr i then t = { s with out := t.out } else t.out = s.out)

/-- 10_state.md R24: only these instructions write a cell. -/
def Obligations.GridWriters : Prop :=
  ∀ (i : Instr) (s t : State), WellFormed i = true → exec i s = .next t → writesGrid i = false →
    t.grid = s.grid

/-- 43_csi.md R189: only these instructions move the cursor; ED, EL, ICH, DCH, IL, DL, ECH, DECSTBM and SCP are not among
them, and of SM only the COLM and OM side effects move it (45_modes.md R225, R226). -/
def Obligations.CursorWriters : Prop :=
  (∀ (i : Instr) (s t : State), WellFormed i = true → exec i s = .next t → movesCursor i = false →
    t.row = s.row ∧ t.col = s.col) ∧
  (∀ (s t : State) (ps : List Nat), exec (.sm ps) s = .next t →
    t.word.modes.colm = s.word.modes.colm → t.word.modes.om = s.word.modes.om → t.row = s.row ∧ t.col = s.col)

/-- 10_state.md R26 and R28: the scrolling region is written by DECSTBM and the COLM side effect only, `CUR_ATTR` by SGR (with
its parameters) and DECRC only. -/
def Obligations.RegionAndAttributeWriters : Prop :=
  (∀ (i : Instr) (s t : State), WellFormed i = true → exec i s = .next t →
    (t.scrollMin ≠ s.scrollMin ∨ t.scrollMax ≠ s.scrollMax ∨ t.word.short ≠ s.word.short) →
    (∃ ps, i = .decstbm ps) ∨
      (∃ ps, i = .sm ps ∧ s.word.modes.colm = false ∧ t.word.modes.colm = true)) ∧
  (∀ (i : Instr) (s t : State), WellFormed i = true → exec i s = .next t → writesAttr i = false →
    t.curAttr = s.curAttr)

/-- The set-by and cleared-by columns of 10_state.md R29, bit by bit: ESC, ALTCS, CURINV, SHORT, the ten mode bits each with its
SM value, SAVED_ALTCS and the reserved bit. ESC is cleared by `Cancel()`, which ends a sequence or drops one at the bound of the
accumulator. -/
def Obligations.StateWordWriters : Prop :=
  ∀ (i : Instr) (s t : State), WellFormed i = true → exec i s = .next t →
    (t.word.esc = true → s.word.esc = true ∨ i = .esc ∨ i = .csi8) ∧
    (t.word.esc = false → s.word.esc = true → t.acc = [] ∧
      (endsSequence i = true ∨ (extendsSequence i = true ∧ s.acc.length + 1 = s.params.accCap))) ∧
    (t.word.altcs = true → s.word.altcs = false →
      i = .so ∨ i = .sgrAltcs ∨ (∃ ps, i = .sgr ps ∧ 11 ∈ ps) ∨ i = .decrc) ∧
    (t.word.altcs = false → s.word.altcs = true →
      i = .si ∨ i = .sgrPrimary ∨ (∃ ps, i = .sgr ps ∧ 10 ∈ ps) ∨ i = .decrc) ∧
    (t.word.curinv = true → s.word.curinv = true) ∧
    (t.word.curinv ≠ s.word.curinv → i = .sm25 ∨ i = .rm25 ∨ (∃ ps, (i = .sm ps ∨ i = .rm ps) ∧ 25 ∈ ps)) ∧
    (t.word.short = true → s.word.short = false → ∃ ps, i = .decstbm ps) ∧
    (t.word.short = false → s.word.short = true →
      (∃ ps, i = .decstbm ps) ∨ (∃ ps, i = .sm ps ∧ s.word.modes.colm = false ∧ t.word.modes.colm = true)) ∧
    (∀ m : ModeBit, modeOf t.word.modes m ≠ modeOf s.word.modes m → modeOf t.word.modes m = true ∧
      (i = decodeSmParam (modeNumber m) ∨ (∃ ps, i = .sm ps ∧ modeNumber m ∈ ps))) ∧
    (t.word.savedAltcs ≠ s.word.savedAltcs → i = .decsc) ∧
    t.word.toWord.getLsbD 15 = false

/-- 10_state.md R32 and R33: the DECSC slot is written by DECSC, and its position by SCP when the slot is shared; the
cursor-only slot is written by SCP when it is not shared. -/
def Obligations.SlotWriters : Prop :=
  ∀ (i : Instr) (s t : State), WellFormed i = true → exec i s = .next t →
    ((t.saveRow ≠ s.saveRow ∨ t.saveCol ≠ s.saveCol) →
      i = .decsc ∨ (i = .scp ∧ s.params.sharedSaveSlot = true)) ∧
    (t.saveAttr ≠ s.saveAttr → i = .decsc) ∧
    ((t.csrRow ≠ s.csrRow ∨ t.csrCol ≠ s.csrCol) → i = .scp ∧ s.params.sharedSaveSlot = false)

/-- 10_state.md R25: the pending-wrap column is entered only by Put-Char advancing past the last column, or by restoring a
save slot that holds it. -/
def Obligations.PendingWrapSources : Prop :=
  ∀ (i : Instr) (s t : State), WellFormed i = true → StateInv s → exec i s = .next t →
    t.col = s.params.cols → s.col ≠ s.params.cols →
    (∃ b, i = .print b ∧ b ≠ 0x20 ∧ s.col + 1 = s.params.cols) ∨
    (i = .decrc ∧ s.saveCol = s.params.cols) ∨
    (i = .rcp ∧ (if s.params.sharedSaveSlot then s.saveCol else s.csrCol) = s.params.cols)

/-- 40_parser_control.md R105 and 30_encoding.md R78: a control byte other than ESC, CSI8, CAN and SUB, and other than the BEL
that ends an OSC, leaves the parser state as it was. -/
def Obligations.ControlBytesKeepTheSequence : Prop :=
  ∀ (s t : State) (b : Byte) (rest : List HostCall), s.calls = .byte b :: rest → step s = .next t →
    isControl b = true → b ≠ 0x1B → b ≠ 0x9B → b ≠ 0x18 → b ≠ 0x1A → s.endsOsc b = false →
    t.word.esc = s.word.esc ∧ t.acc = s.acc

/-- 70_reset_and_hazards.md R281: what the sequence `SI CSI 0 m CSI r CSI 2 J CSI H` restores, and what it leaves, from any
state of the invariant, for an accumulator of at least 3 bytes (a smaller one cuts `CSI 0 m`, R104). R281 marks this as its own
inference. -/
def Obligations.RestoringSequence : Prop :=
  ∀ s : State, StateInv s → 3 ≤ s.params.accCap →
    ∃ t, core.run 15 { s with calls := render (some
        [0x0F, 0x1B, 0x5B, 0x30, 0x6D, 0x1B, 0x5B, 0x72, 0x1B, 0x5B, 0x32, 0x4A, 0x1B, 0x5B, 0x48]) } = .next t ∧
      t.word.altcs = false ∧ t.curAttr = normalAttr s.params ∧
      t.scrollMin = 0 ∧ t.scrollMax = s.params.rows - 1 ∧ t.word.short = false ∧
      (∀ r c, s.inGrid r c = true → t.cellAt r c = some { ch := 0x20, attr := normalAttr s.params }) ∧
      t.row = 0 ∧ t.col = 0 ∧
      t.word.modes = s.word.modes ∧
      t.saveRow = s.saveRow ∧ t.saveCol = s.saveCol ∧ t.saveAttr = s.saveAttr ∧
      t.word.savedAltcs = s.word.savedAltcs ∧ t.csrRow = s.csrRow ∧ t.csrCol = s.csrCol

/-- 60_exceptions.md R262 and 30_encoding.md R77: a CSI sequence that fills the accumulator without a final-class byte is
dropped: once its `ACC_CAP - 1` body bytes have arrived the state is as if it had never been sent, and before that it is
still in progress. -/
def Obligations.OverlongSequencesAreDropped : Prop :=
  ∀ (s : State) (body : List Byte), StateInv s → s.word.esc = false →
    (∀ b ∈ body, isGraphic b = true ∧ isFinal b = false) →
    (body.length + 1 = s.params.accCap →
      core.run (body.length + 2) { s with calls := render (some (0x1B :: 0x5B :: body)) } =
        .next { s with calls := [] }) ∧
    (body.length + 1 < s.params.accCap →
      core.run (body.length + 2) { s with calls := render (some (0x1B :: 0x5B :: body)) } =
        .next { s with calls := [], acc := 0x5B :: body, word := { s.word with esc := true } })

/-- 41_escape.md R142 and 40_parser_control.md R102: an OSC with at most `ACC_CAP - 2` payload bytes, ended by BEL, changes
nothing and rings no bell. -/
def Obligations.OscIsSilent : Prop :=
  ∀ (s : State) (payload : List Byte), StateInv s → s.word.esc = false →
    (∀ b ∈ payload, isGraphic b = true) → payload.length + 2 ≤ s.params.accCap →
    core.run (payload.length + 3) { s with calls := render (some (0x1B :: 0x5D :: (payload ++ [0x07]))) } =
      .next { s with calls := [] }

/-! ### Grid -/

/-- 20_memory.md R54: a write stores its cell and changes no other, neither access has a side effect, a cell the block never
wrote reads as its reset value. The clauses on the canonical form of the grid, that a write keeps it and that grids that read
alike are equal data, are about the model's own choice of that form (log 12). -/
def Obligations.GridReadAfterWrite : Prop :=
  (∀ (s : State) (r c : Nat) (v : Cell), s.inGrid r c = true →
    ∃ t, memWrite r c v s = .next t ∧ t = { s with grid := t.grid } ∧
      (s.memWf = true → t.memWf = true) ∧
      ∀ i j, t.cellAt i j = if i = r ∧ j = c then some v else s.cellAt i j) ∧
  (∀ (p : Params) (k : Profile) (r c : Nat), r < p.rows → c < p.cols →
    (State.construct p k).cellAt r c = some (resetCell p)) ∧
  (∀ s t : State, t.params = s.params → s.memWf = true → t.memWf = true →
    (∀ r c, t.cellAt r c = s.cellAt r c) → t.grid = s.grid)

/-! ### Control characters -/

/-- 40_parser_control.md R101 and R119: NUL and the unassigned C0 bytes do nothing, in every parser state. -/
def Obligations.NoEffectBytes : Prop :=
  (∀ i ∈ [Instr.nul, .c0Nop01, .c0Nop02, .c0Nop03, .c0Nop04, .c0Nop05, .c0Nop06, .c0Nop10, .c0Nop11, .c0Nop12,
      .c0Nop13, .c0Nop14, .c0Nop15, .c0Nop16, .c0Nop17, .c0Nop19, .c0Nop1C, .c0Nop1D, .c0Nop1E, .c0Nop1F],
    ∀ s : State, exec i s = .next s) ∧
  (∀ b ∈ ([0x00, 0x01, 0x02, 0x03, 0x04, 0x05, 0x06, 0x10, 0x11, 0x12, 0x13, 0x14, 0x15, 0x16, 0x17, 0x19,
      0x1C, 0x1D, 0x1E, 0x1F] : List Byte),
    ∀ (s : State) (rest : List HostCall), s.params.ok = true → s.calls = .byte b :: rest →
      step s = .next { s with calls := rest })

/-- 40_parser_control.md R106 and R102: BEL rings once and changes nothing else, except while an OSC is in progress, where it
ends the OSC and does not ring. -/
def Obligations.BellAndOscEnd : Prop :=
  (∀ s : State, exec .bel s = .next { s with sink := s.sink ++ [.bell] } ∧
    exec .oscEnd s = .next { s with word := { s.word with esc := false }, acc := [] }) ∧
  (∀ (s : State) (rest : List HostCall), s.params.ok = true → s.calls = .byte 0x07 :: rest →
    (s.word.esc = true → s.acc.head? = some 0x5D →
      step s = .next { s with calls := rest, word := { s.word with esc := false }, acc := [] }) ∧
    ((s.word.esc = false ∨ s.acc.head? ≠ some 0x5D) →
      step s = .next { s with calls := rest, sink := s.sink ++ [.bell] }))

/-- 40_parser_control.md R115 to R118: CSI8, ESC, CAN and SUB, whatever the parser state. -/
def Obligations.ParserBytes : Prop :=
  (∀ s : State,
    exec .csi8 s = .next { s with word := { s.word with esc := true }, acc := [0x5B] } ∧
    exec .esc s = .next { s with word := { s.word with esc := true }, acc := [] } ∧
    exec .can s = .next { s with word := { s.word with esc := false }, acc := [] } ∧
    exec .sub s = .next { s with word := { s.word with esc := false }, acc := [] }) ∧
  (∀ (s : State) (rest : List HostCall), s.params.ok = true →
    (s.calls = .byte 0x9B :: rest →
      step s = .next { s with calls := rest, word := { s.word with esc := true }, acc := [0x5B] }) ∧
    (s.calls = .byte 0x1B :: rest →
      step s = .next { s with calls := rest, word := { s.word with esc := true }, acc := [] }) ∧
    (s.calls = .byte 0x18 :: rest ∨ s.calls = .byte 0x1A :: rest →
      step s = .next { s with calls := rest, word := { s.word with esc := false }, acc := [] }))

/-- 40_parser_control.md R107, R108, R112 to R114: BS, HT, CR, SO and SI. HT goes to the next multiple of 8 after the column,
or to the last column. -/
def Obligations.CursorAndShiftControls : Prop :=
  ∀ s : State,
    exec .bs s = .next { s with col := s.col - 1, sink := s.sink ++ [.invCursor] } ∧
    (∀ stop, 8 ∣ stop → s.col < stop → stop ≤ s.col + 8 →
      exec .ht s = .next { s with col := min stop (s.params.cols - 1), sink := s.sink ++ [.invCursor] }) ∧
    exec .cr s = .next { s with col := 0, sink := s.sink ++ [.invCursor] } ∧
    exec .so s = .next { s with word := { s.word with altcs := true } } ∧
    exec .si s = .next { s with word := { s.word with altcs := false } }

/-- 40_parser_control.md R109 to R111 with 20_memory.md R57: LF, VT and FF return the column if LNM is set, then scroll the
region up at its bottom margin, or move the cursor down, but not past the last row. The behaviour at and outside the margins is
the spec's decision D9, which it marks as general knowledge. -/
def Obligations.LineFeeds : Prop :=
  ∀ i ∈ [Instr.lf, .vt, .ff], ∀ s : State, StateInv s →
    (s.row = s.scrollMax →
      ∃ t, exec i s = .next t ∧
        t = { s with col := if s.word.modes.lnm then 0 else s.col, grid := t.grid, sink := s.sink ++ [.invScreen] } ∧
        ShiftedUp s.scrollMin s.scrollMax 1 s t) ∧
    (s.row ≠ s.scrollMax →
      exec i s = .next { s with col := if s.word.modes.lnm then 0 else s.col, row := min (s.row + 1) (s.params.rows - 1),
                                sink := s.sink ++ [.invCursor] })

/-! ### Escape sequences -/

/-- 41_escape.md R132 to R134 with 20_memory.md R57, R58: IND and NEL at and away from the bottom margin, RI at and away from
the top margin; each ends the sequence. The behaviour at and outside the margins is the spec's decision D9, which it marks as
general knowledge. -/
def Obligations.IndexEscapes : Prop :=
  (∀ s : State, StateInv s → ∀ e ∈ [(Instr.ind, s.col), (.nel, 0)],
    (s.row = s.scrollMax →
      ∃ t, exec e.1 s = .next t ∧
        t = { s with col := e.2, grid := t.grid, sink := s.sink ++ [.invScreen],
                     word := { s.word with esc := false }, acc := [] } ∧
        ShiftedUp s.scrollMin s.scrollMax 1 s t) ∧
    (s.row ≠ s.scrollMax →
      exec e.1 s = .next { s with col := e.2, row := min (s.row + 1) (s.params.rows - 1),
                                  sink := s.sink ++ [.invCursor], word := { s.word with esc := false }, acc := [] })) ∧
  (∀ s : State, StateInv s →
    (s.row = s.scrollMin →
      ∃ t, exec .ri s = .next t ∧
        t = { s with grid := t.grid, sink := s.sink ++ [.invScreen],
                     word := { s.word with esc := false }, acc := [] } ∧
        ShiftedDown s.scrollMin s.scrollMax 1 s t) ∧
    (s.row ≠ s.scrollMin →
      exec .ri s = .next { s with row := s.row - 1, sink := s.sink ++ [.invCursor],
                                  word := { s.word with esc := false }, acc := [] }))

/-- 41_escape.md R135, R136 and 43_csi.md R186, R187: what DECSC, DECRC, SCP and RCP write. The two round-trip laws
are inferences, the first marked so by R136, the second drawn from R186 and R187 in the same way. -/
def Obligations.SaveAndRestore : Prop :=
  (∀ s : State,
    exec .decsc s = .next { s with saveRow := s.row, saveCol := s.col, saveAttr := s.curAttr,
                                   word := { s.word with savedAltcs := s.word.altcs, esc := false }, acc := [] } ∧
    exec .decrc s = .next { s with row := s.saveRow, col := s.saveCol, curAttr := s.saveAttr,
                                   word := { s.word with altcs := s.word.savedAltcs, esc := false }, acc := [],
                                   sink := s.sink ++ [.invCursor] } ∧
    exec .scp s = .next (if s.params.sharedSaveSlot then
        { s with saveRow := s.row, saveCol := s.col, word := { s.word with esc := false }, acc := [] }
      else { s with csrRow := s.row, csrCol := s.col, word := { s.word with esc := false }, acc := [] }) ∧
    exec .rcp s = .next (if s.params.sharedSaveSlot then
        { s with row := s.saveRow, col := s.saveCol, word := { s.word with esc := false }, acc := [],
                 sink := s.sink ++ [.invCursor] }
      else { s with row := s.csrRow, col := s.csrCol, word := { s.word with esc := false }, acc := [],
                    sink := s.sink ++ [.invCursor] })) ∧
  (∀ s t : State, runAll [.decsc, .decrc] s = .next t →
    t.row = s.row ∧ t.col = s.col ∧ t.curAttr = s.curAttr ∧ t.word.altcs = s.word.altcs) ∧
  (∀ s t : State, runAll [.scp, .rcp] s = .next t → t.row = s.row ∧ t.col = s.col)

/-- 41_escape.md R137: DECALN writes the test character with the current attribute to every cell, emits one `InvScreen` and
ends the sequence. That the grid is in its canonical form afterwards is about the model's own choice of that form (log 12). -/
def Obligations.AlignmentTest : Prop :=
  ∀ s : State, ∃ t, exec .decaln s = .next t ∧
    t = { s with grid := t.grid, sink := s.sink ++ [.invScreen], word := { s.word with esc := false }, acc := [] } ∧
    (∀ r c, t.cellAt r c =
      if s.inGrid r c = true then some { ch := s.params.decalnChar, attr := { s.curAttr with altcs := false } } else none) ∧
    t.memWf = true

/-- 41_escape.md R138 to R140, R143 and 43_csi.md R188: a sequence without a meaning is consumed; only the parser changes. -/
def Obligations.CancelledSequences : Prop :=
  ∀ (s : State) (f : Byte),
    ∀ i ∈ [Instr.escHashOther (some f), .scsG0 (some f), .scsG1 (some f), .escUnrecognised f, .csiUnrecognised f],
      exec i s = .next { s with word := { s.word with esc := false }, acc := [] }

/-- 40_parser_control.md R104 with 41_escape.md R138 to R142: a byte that leaves its sequence open is appended and does
nothing else; a sequence still open at `ACC_CAP` bytes is cancelled. -/
def Obligations.OpenSequences : Prop :=
  ∀ (s : State) (b : Byte), StateInv s → s.word.esc = true →
    ∀ e ∈ [(Instr.escHashOther none, (0x23 : Byte)), (.scsG0 none, 0x28), (.scsG1 none, 0x29), (.csi none, 0x5B),
        (.osc none, 0x5D), (.osc (some b), b)] ++ (if isFinal b then [] else [(.csi (some b), b)]),
      (s.acc.length + 1 < s.params.accCap → exec e.1 s = .next { s with acc := s.acc ++ [e.2] }) ∧
      (s.acc.length + 1 = s.params.accCap →
        exec e.1 s = .next { s with word := { s.word with esc := false }, acc := [] })

/-- 41_escape.md R141 and 43_csi.md R160: the first final-class byte of a CSI sequence runs the command of its verb with the
parameters of its body, then ends the sequence; the marker '?' and the remainder change nothing (30_encoding.md R80). -/
def Obligations.CsiFinalByte : Prop :=
  ∀ (s : State) (v : Byte) (body : List Byte), isFinal v = true → s.word.esc = true → s.acc = 0x5B :: body →
    fetchInstr v s = decodeVerb (parseParams body) v ∧
    exec (.csi (some v)) s = exec (decodeVerb (parseParams body) v) s ∧
    (∀ t, exec (decodeVerb (parseParams body) v) s = .next t → t.word.esc = false ∧ t.acc = [])

/-! ### Put-Char -/

/-- 42_putchar.md R150, R152, R153: Put-Char away from the pending-wrap column. The cell at the cursor takes the byte and the
current attribute; in the alternate set a byte outside `ALTCS_SET` leaves the character and rewrites the attribute alone, or
nothing, as the parameter says; a space written to the last column leaves the cursor there. -/
def Obligations.PrintWrites : Prop :=
  ∀ (s : State) (b : Byte) (rejected silent : Bool), StateInv s → s.col < s.params.cols →
    rejected = (s.word.altcs && !s.params.altcsSet.contains b) →
    silent = (rejected && !s.params.altcsRejectWritesAttr) →
    ∃ t, exec (.print b) s = .next t ∧
      t = { s with grid := t.grid, col := if s.col + 1 = s.params.cols ∧ b = 0x20 then s.col else s.col + 1,
                   sink := s.sink ++ (if silent then [] else [.invCell s.row s.col]) } ∧
      ∀ r c, t.cellAt r c =
        if r = s.row ∧ c = s.col ∧ silent = false then
          (s.cellAt r c).map (fun old =>
            if rejected then { ch := old.ch, attr := { s.curAttr with altcs := true } }
            else { ch := b, attr := { s.curAttr with altcs := s.word.altcs } })
        else s.cellAt r c

/-- 42_putchar.md R151: Put-Char at the pending-wrap column acts as from the last column when AWM is clear, and as from column
0 after an index when AWM is set; `PrintWrites` says how it goes on from there. What the index does at and outside the margin is
the spec's decision D9 (20_memory.md R57), which it marks as general knowledge. -/
def Obligations.PrintWraps : Prop :=
  ∀ (s : State) (b : Byte), StateInv s → s.col = s.params.cols →
    (s.word.modes.awm = false → exec (.print b) s = exec (.print b) { s with col := s.params.cols - 1 }) ∧
    (s.word.modes.awm = true → s.row ≠ s.scrollMax →
      exec (.print b) s = exec (.print b) { s with col := 0, row := min (s.row + 1) (s.params.rows - 1),
                                                   sink := s.sink ++ [.invCursor] }) ∧
    (s.word.modes.awm = true → s.row = s.scrollMax →
      ∃ m, m = { s with col := 0, grid := m.grid, sink := s.sink ++ [.invScreen] } ∧
        ShiftedUp s.scrollMin s.scrollMax 1 s m ∧ exec (.print b) s = exec (.print b) m) ∧
    (∃ t, exec (.print b) s = .next t)

/-! ### CSI commands -/

/-- 43_csi.md R166, R167: CUP and HVP go to the 1-based position, clamped to the grid; a missing or zero parameter is the first
row or column, and no parameter at all is home. -/
def Obligations.CursorPosition : Prop :=
  ∀ (s : State) (ps : List Nat), ∀ i ∈ [Instr.cup ps, .hvp ps],
    exec i s = .next { s with row := min (ps.getD 0 0 - 1) (s.params.rows - 1),
                              col := min (ps.getD 1 0 - 1) (s.params.cols - 1),
                              sink := s.sink ++ [.invCursor], word := { s.word with esc := false }, acc := [] }

/-- 43_csi.md R168, R169, R172, R173, R175, R177 with R161: the vertical motions by `n`, or to the 1-based row `n`, clamped to
the grid, with the column clamped too. -/
def Obligations.VerticalMotions : Prop :=
  ∀ (s : State) (ps : List Nat) (n : Nat), n = (if 1 ≤ ps.getD 0 0 then ps.getD 0 0 else 1) →
    ∀ e ∈ [(Instr.cuu ps, s.row - n), (.cpl ps, s.row - n), (.cud ps, s.row + n), (.cnl ps, s.row + n),
        (.vpr ps, s.row + n), (.vpa ps, n - 1)],
      exec e.1 s = .next { s with row := min e.2 (s.params.rows - 1), col := min s.col (s.params.cols - 1),
                                  sink := s.sink ++ [.invCursor], word := { s.word with esc := false }, acc := [] }

/-- 43_csi.md R170, R171, R174, R176, R178 with R161: the horizontal motions by `n`, or to the 1-based column `n`, clamped to
the grid. -/
def Obligations.HorizontalMotions : Prop :=
  ∀ (s : State) (ps : List Nat) (n : Nat), s.row < s.params.rows →
    n = (if 1 ≤ ps.getD 0 0 then ps.getD 0 0 else 1) →
    ∀ e ∈ [(Instr.cuf ps, s.col + n), (.hpr ps, s.col + n), (.cub ps, s.col - n), (.cha ps, n - 1), (.hpa ps, n - 1)],
      exec e.1 s = .next { s with col := min e.2 (s.params.cols - 1),
                                  sink := s.sink ++ [.invCursor], word := { s.word with esc := false }, acc := [] }

/-- 43_csi.md R165, R179, R184 with 20_memory.md R59: which cells ED, EL and ECH blank, and one `InvCell` for each, in
row-major order; the cursor does not move. -/
def Obligations.Erases : Prop :=
  ∀ (s : State) (ps : List Nat) (n cc : Nat), StateInv s → n = (if 1 ≤ ps.getD 0 0 then ps.getD 0 0 else 1) →
    cc = min s.col (s.params.cols - 1) →
    ∀ e ∈ [
      (Instr.ed ps, fun r c : Nat =>
        if ps.getD 0 0 = 2 then true
        else if ps.getD 0 0 = 1 then decide (r < s.row ∨ (r = s.row ∧ c ≤ cc))
        else decide (s.row < r ∨ (r = s.row ∧ cc ≤ c))),
      (.el ps, fun r c : Nat =>
        if ps.getD 0 0 = 1 then decide (r = s.row ∧ c ≤ cc)
        else if ps.getD 0 0 = 2 then decide (r = s.row)
        else decide (r = s.row ∧ cc ≤ c)),
      (.ech ps, fun r c : Nat => decide (r = s.row ∧ cc ≤ c ∧ c < cc + n))],
      ∃ t, exec e.1 s = .next t ∧
        t = { s with grid := t.grid, sink := s.sink ++ s.cellEvents e.2, word := { s.word with esc := false }, acc := [] } ∧
        Erased e.2 s t

/-- 43_csi.md R180, R181: the row tail from the cursor moves right (ICH) or left (DCH) by `n`, cells that leave the row are
lost, blanks enter; one `InvCell` for each cell of the tail, left to right; the cursor does not move. -/
def Obligations.InsertDeleteCharacters : Prop :=
  ∀ (s : State) (ps : List Nat) (n cc : Nat), StateInv s → n = (if 1 ≤ ps.getD 0 0 then ps.getD 0 0 else 1) →
    cc = min s.col (s.params.cols - 1) →
    (∃ t, exec (.ich ps) s = .next t ∧
      t = { s with grid := t.grid, word := { s.word with esc := false }, acc := [],
                   sink := s.sink ++ s.cellEvents (fun r c => decide (r = s.row ∧ cc ≤ c)) } ∧
      ∀ r c, t.cellAt r c =
        if s.inGrid r c = true ∧ r = s.row ∧ cc ≤ c then (if cc + n ≤ c then s.cellAt r (c - n) else some s.blank)
        else s.cellAt r c) ∧
    (∃ t, exec (.dch ps) s = .next t ∧
      t = { s with grid := t.grid, word := { s.word with esc := false }, acc := [],
                   sink := s.sink ++ s.cellEvents (fun r c => decide (r = s.row ∧ cc ≤ c)) } ∧
      ∀ r c, t.cellAt r c =
        if s.inGrid r c = true ∧ r = s.row ∧ cc ≤ c then
          (if c + n < s.params.cols then s.cellAt r (c + n) else some s.blank)
        else s.cellAt r c)

/-- 43_csi.md R182, R183 with 20_memory.md R56: IL and DL shift the rows from the cursor row to the bottom margin by `n`; with
the cursor outside the region they have no effect and no event. -/
def Obligations.InsertDeleteLines : Prop :=
  ∀ (s : State) (ps : List Nat) (n : Nat), StateInv s → n = (if 1 ≤ ps.getD 0 0 then ps.getD 0 0 else 1) →
    (s.row < s.scrollMin ∨ s.scrollMax < s.row →
      ∀ i ∈ [Instr.il ps, .dl ps], exec i s = .next { s with word := { s.word with esc := false }, acc := [] }) ∧
    (s.scrollMin ≤ s.row → s.row ≤ s.scrollMax →
      (∃ t, exec (.il ps) s = .next t ∧
        t = { s with grid := t.grid, sink := s.sink ++ [.invScreen], word := { s.word with esc := false }, acc := [] } ∧
        ShiftedDown s.row s.scrollMax n s t) ∧
      (∃ t, exec (.dl ps) s = .next t ∧
        t = { s with grid := t.grid, sink := s.sink ++ [.invScreen], word := { s.word with esc := false }, acc := [] } ∧
        ShiftedUp s.row s.scrollMax n s t))

/-- 43_csi.md R185: DECSTBM sets the clamped 1-based bounds, or the full height with no parameter; it is rejected if the top is
below the bottom; SHORT says whether the region is not the full height; the cursor does not move and nothing is emitted. -/
def Obligations.SetScrollRegion : Prop :=
  ∀ (s : State) (ps : List Nat) (top bot : Nat),
    top = min (ps.getD 0 0 - 1) (s.params.rows - 1) →
    bot = (if ps = [] then s.params.rows - 1 else min (ps.getD 1 0 - 1) (s.params.rows - 1)) →
    (bot < top → exec (.decstbm ps) s = .next { s with word := { s.word with esc := false }, acc := [] }) ∧
    (top ≤ bot → exec (.decstbm ps) s = .next
      { s with scrollMin := top, scrollMax := bot, acc := [],
               word := { s.word with esc := false, short := decide (¬ (top = 0 ∧ bot = s.params.rows - 1)) } })

/-! ### SGR -/

/-- 44_sgr.md R200 and R216: SGR with no parameter makes `CUR_ATTR` NORMAL; otherwise it runs the parameter instructions of its
values left to right. It always completes, and writes nothing but `CUR_ATTR`, `STATE.ALTCS` and the parser. -/
def Obligations.SgrRunsItsParameters : Prop :=
  (∀ s : State, exec (.sgr []) s =
    .next { s with curAttr := normalAttr s.params, word := { s.word with esc := false }, acc := [] }) ∧
  (∀ (s : State) (ps : List Nat), ps ≠ [] →
    exec (.sgr ps) s = andThen (runAll (ps.map decodeSgrParam) s)
      (fun t => .next { t with word := { t.word with esc := false }, acc := [] })) ∧
  (∀ (s : State) (ps : List Nat), ∃ t, exec (.sgr ps) s = .next t ∧
    t = { s with curAttr := t.curAttr, word := { s.word with altcs := t.word.altcs, esc := false }, acc := [] })

/-- 44_sgr.md R201 to R210: the parameter instructions of SGR that write flags. -/
def Obligations.SgrFlags : Prop :=
  ∀ s : State,
    exec .sgr0 s = .next { s with curAttr := { fg := s.params.defaultFg, bg := s.params.defaultBg, bold := false,
                                               blink := false, reverse := false, invisible := false, altcs := false } } ∧
    (∀ p ∈ [1, 2, 4], decodeSgrParam p = .sgrBold p ∧
      exec (.sgrBold p) s = .next { s with curAttr := { s.curAttr with bold := true } }) ∧
    exec .sgrBlink s = .next { s with curAttr := { s.curAttr with blink := true } } ∧
    (∀ p ∈ [7, 27], decodeSgrParam p = .sgrReverse p ∧
      exec (.sgrReverse p) s = .next { s with curAttr := { s.curAttr with reverse := true } }) ∧
    exec .sgrInvisible s = .next { s with curAttr := { s.curAttr with invisible := true } } ∧
    exec .sgrPrimary s = .next { s with word := { s.word with altcs := false } } ∧
    exec .sgrAltcs s = .next { s with word := { s.word with altcs := true } } ∧
    (∀ p ∈ [22, 24], decodeSgrParam p = .sgrBoldOff p ∧
      exec (.sgrBoldOff p) s = .next { s with curAttr := { s.curAttr with bold := false } }) ∧
    exec .sgrBlinkOff s = .next { s with curAttr := { s.curAttr with blink := false } } ∧
    exec .sgrInvisibleOff s = .next { s with curAttr := { s.curAttr with invisible := false } } ∧
    [0, 5, 8, 10, 11, 25, 28].map decodeSgrParam =
      [.sgr0, .sgrBlink, .sgrInvisible, .sgrPrimary, .sgrAltcs, .sgrBlinkOff, .sgrInvisibleOff]

/-- 44_sgr.md R211 to R215: the parameter instructions of SGR that write colours, and the values that are ignored, however
large. -/
def Obligations.SgrColours : Prop :=
  (∀ (s : State) (p : Nat), 30 ≤ p → p ≤ 37 → decodeSgrParam p = .sgrFg p ∧
    ∃ t, exec (.sgrFg p) s = .next t ∧ t = { s with curAttr := { s.curAttr with fg := t.curAttr.fg } } ∧
      t.curAttr.fg.toNat = p - 30) ∧
  (∀ (s : State) (p : Nat), 40 ≤ p → p ≤ 47 → decodeSgrParam p = .sgrBg p ∧
    ∃ t, exec (.sgrBg p) s = .next t ∧ t = { s with curAttr := { s.curAttr with bg := t.curAttr.bg } } ∧
      t.curAttr.bg.toNat = p - 40) ∧
  (∀ s : State, exec .sgrFgDefault s = .next { s with curAttr := { s.curAttr with fg := s.params.defaultFg } } ∧
    exec .sgrBgDefault s = .next { s with curAttr := { s.curAttr with bg := s.params.defaultBg } }) ∧
  decodeSgrParam 39 = .sgrFgDefault ∧ decodeSgrParam 49 = .sgrBgDefault ∧
  (∀ (s : State) (p : Nat), exec (.sgrIgnored p) s = .next s) ∧
  (∀ p : Nat, p ∉ [0, 1, 2, 4, 5, 7, 8, 10, 11, 22, 24, 25, 27, 28, 39, 49] → ¬ (30 ≤ p ∧ p ≤ 37) →
    ¬ (40 ≤ p ∧ p ≤ 47) → decodeSgrParam p = .sgrIgnored p)

/-! ### Modes -/

/-- 45_modes.md R220 to R226: SM sets the bit of each of its values, ignores the others, and then has the COLM side effect if
it set COLM, and after it the OM side effect if it set OM. -/
def Obligations.SetMode : Prop :=
  ∀ (s : State) (ps : List Nat) (colm om : Bool), StateInv s →
    colm = (ps.contains 3 && !s.word.modes.colm) → om = (ps.contains 6 && !s.word.modes.om) →
    ∃ t, exec (.sm ps) s = .next t ∧
      (∀ m : ModeBit, modeOf t.word.modes m = (modeOf s.word.modes m || ps.contains (modeNumber m))) ∧
      t = { s with
            grid := t.grid
            row := if om then (if colm then 0 else s.scrollMin) else if colm then 0 else s.row
            col := if colm || om then 0 else s.col
            scrollMin := if colm then 0 else s.scrollMin
            scrollMax := if colm then s.params.rows - 1 else s.scrollMax
            word := { s.word with esc := false, modes := t.word.modes,
                                  short := if colm then false else s.word.short }
            acc := []
            sink := s.sink ++ (if colm then .invCursor :: s.cellEvents (fun _ _ => true) else []) ++
              (if om then [.invCursor] else []) } ∧
      Erased (fun _ _ => colm) s t

/-- 45_modes.md R227, R221 to R223: RM clears CURINV if 25 is among its values and does nothing else; each parameter
instruction of SM sets its bit, and 25 clears CURINV. -/
def Obligations.ResetModeAndParameters : Prop :=
  (∀ (s : State) (ps : List Nat), exec (.rm ps) s =
    .next { s with word := { s.word with esc := false, curinv := s.word.curinv && !ps.contains 25 }, acc := [] }) ∧
  (∀ (s : State) (p : Nat),
    exec .rm25 s = .next { s with word := { s.word with curinv := false } } ∧ exec (.rmIgnored p) s = .next s ∧
    exec .sm25 s = .next { s with word := { s.word with curinv := false } } ∧ exec (.smIgnored p) s = .next s) ∧
  (∀ (s : State), ∀ e ∈ [(Instr.smCkm, ModeBit.ckm), (.smAnm, .anm), (.smColm, .colm), (.smSclm, .sclm),
      (.smScnm, .scnm), (.smOm, .om), (.smAwm, .awm), (.smArm, .arm), (.smInlm, .inlm), (.smLnm, .lnm)],
    decodeSmParam (modeNumber e.2) = e.1 ∧
    ∃ t, exec e.1 s = .next t ∧ t = { s with word := { s.word with modes := t.word.modes } } ∧
      ∀ m, modeOf t.word.modes m = (modeOf s.word.modes m || decide (m = e.2))) ∧
  (∀ p, p ∉ [1, 2, 3, 4, 5, 6, 7, 8, 9, 20, 25] → decodeSmParam p = .smIgnored p) ∧
  decodeSmParam 25 = .sm25 ∧ decodeRmParam 25 = .rm25 ∧ (∀ p, p ≠ 25 → decodeRmParam p = .rmIgnored p)

/-! ### Keyboard -/

/-- 46_keyboard.md R242 to R244, R249: a character key appends its byte, an arrow key one of the three encodings by ANM and
CKM, the Null key and a released key nothing. The letters and which mode bits select which encoding are the spec's decision D35,
which it marks as general knowledge. -/
def Obligations.CharacterAndArrowKeys : Prop :=
  (∀ (s : State) (b : Byte) (k : KeyIdent) (m : Mods),
    exec (.keyChar b m) s = .next { s with out := s.out ++ [b] } ∧
    exec (.keyNull m) s = .next s ∧ exec (.keyReleased k m) s = .next s) ∧
  (∀ (s : State) (m : Mods), ∀ e ∈ [(Instr.keyUp m, (0x41 : Byte)), (.keyDown m, 0x42), (.keyRight m, 0x43),
      (.keyLeft m, 0x44)],
    (s.word.modes.anm = false → exec e.1 s = .next { s with out := s.out ++ [0x1B, e.2] }) ∧
    (s.word.modes.anm = true → s.word.modes.ckm = false →
      exec e.1 s = .next { s with out := s.out ++ [0x1B, 0x5B, e.2] }) ∧
    (s.word.modes.anm = true → s.word.modes.ckm = true →
      exec e.1 s = .next { s with out := s.out ++ [0x1B, 0x4F, e.2] }))

/-- 46_keyboard.md R240 and R245 to R248: a profile-mapped key appends its entry in the keymap of the selected profile, or
nothing where it has none; an entry of a legal instance is never empty (log 1); with the reference keymaps these are the strings
of R246 and R247, which the spec marks as general knowledge (decision D36). -/
def Obligations.MappedKeys : Prop :=
  (∀ (s : State) (m : Mods) (map : Keymap),
    map = (match s.profile with | .minimal => s.params.keymapMinimal | .rich => s.params.keymapRich) →
    ∀ e ∈ [(KeyIdent.f1, Instr.keyF1 m), (.f2, .keyF2 m), (.f3, .keyF3 m), (.f4, .keyF4 m), (.f5, .keyF5 m),
        (.f6, .keyF6 m), (.f7, .keyF7 m), (.f8, .keyF8 m), (.f9, .keyF9 m), (.f10, .keyF10 m), (.f11, .keyF11 m),
        (.f12, .keyF12 m), (.insert, .keyInsert m), (.delete, .keyDelete m), (.home, .keyHome m), (.endKey, .keyEnd m),
        (.pageUp, .keyPageUp m), (.pageDown, .keyPageDown m), (.suspend, .keySuspend m)],
      exec e.2 s = .next { s with out := s.out ++ (map.lookup e.1).getD [] }) ∧
  (∀ (s : State) (k : KeyIdent) (bs : List Byte), s.params.ok = true → s.keymap.lookup k = some bs → bs ≠ []) ∧
  (∀ (s : State) (m : Mods), s.profile = .minimal → s.params.keymapMinimal = Params.reference.keymapMinimal →
    (∀ e ∈ [(Instr.keyF1 m, ([0x1B, 0x5B, 0x5B, 0x41] : List Byte)), (.keyF2 m, [0x1B, 0x5B, 0x5B, 0x42]),
        (.keyF3 m, [0x1B, 0x5B, 0x5B, 0x43]), (.keyF4 m, [0x1B, 0x5B, 0x5B, 0x44]), (.keyF5 m, [0x1B, 0x5B, 0x5B, 0x45])],
      exec e.1 s = .next { s with out := s.out ++ e.2 }) ∧
    (∀ i ∈ [Instr.keyF6 m, .keyF7 m, .keyF8 m, .keyF9 m, .keyF10 m, .keyF11 m, .keyF12 m, .keyInsert m, .keyDelete m,
        .keyHome m, .keyEnd m, .keyPageUp m, .keyPageDown m, .keySuspend m], exec i s = .next s)) ∧
  (∀ (s : State) (m : Mods), s.profile = .rich → s.params.keymapRich = Params.reference.keymapRich →
    ∀ e ∈ [(Instr.keyF1 m, ([0x1B, 0x5B, 0x31, 0x31, 0x7E] : List Byte)), (.keyF2 m, [0x1B, 0x5B, 0x31, 0x32, 0x7E]),
        (.keyF3 m, [0x1B, 0x5B, 0x31, 0x33, 0x7E]), (.keyF4 m, [0x1B, 0x5B, 0x31, 0x34, 0x7E]),
        (.keyF5 m, [0x1B, 0x5B, 0x31, 0x35, 0x7E]), (.keyF6 m, [0x1B, 0x5B, 0x31, 0x37, 0x7E]),
        (.keyF7 m, [0x1B, 0x5B, 0x31, 0x38, 0x7E]), (.keyF8 m, [0x1B, 0x5B, 0x31, 0x39, 0x7E]),
        (.keyF9 m, [0x1B, 0x5B, 0x32, 0x30, 0x7E]), (.keyF10 m, [0x1B, 0x5B, 0x32, 0x31, 0x7E]),
        (.keyF11 m, [0x1B, 0x5B, 0x32, 0x33, 0x7E]), (.keyF12 m, [0x1B, 0x5B, 0x32, 0x34, 0x7E]),
        (.keyInsert m, [0x1B, 0x5B, 0x32, 0x7E]), (.keyDelete m, [0x1B, 0x5B, 0x33, 0x7E]),
        (.keyHome m, [0x1B, 0x5B, 0x37, 0x7E]), (.keyEnd m, [0x1B, 0x5B, 0x38, 0x7E]),
        (.keyPageUp m, [0x1B, 0x5B, 0x35, 0x7E]), (.keyPageDown m, [0x1B, 0x5B, 0x36, 0x7E]), (.keySuspend m, [0x1A])],
      exec e.1 s = .next { s with out := s.out ++ e.2 })

/-- 46_keyboard.md R250 and R249: what a key emits depends on ANM, CKM and the keymap of the selected profile only, not on the
parser, on any other mode bit, on the modifiers, or on anything else of the state; and it disturbs nothing but `OUT`. -/
def Obligations.EncoderReadsTwoModes : Prop :=
  ∀ (s u : State) (ev : KeyEvent) (m : Mods) (rest rest' : List HostCall),
    s.params.ok = true → u.params.ok = true → isKnownKey ev.key = true →
    s.calls = .key ev :: rest → u.calls = .key { ev with mods := m } :: rest' →
    u.word.modes.anm = s.word.modes.anm → u.word.modes.ckm = s.word.modes.ckm → u.keymap = s.keymap →
    ∃ bs, step s = .next { s with calls := rest, out := s.out ++ bs } ∧
      step u = .next { u with calls := rest', out := u.out ++ bs } ∧ (ev.pressed = false → bs = [])

/-! ### Aliases -/

/-- 30_encoding.md R92: the pseudo-instructions, which R92 marks as its own inference. -/
def Obligations.Aliases : Prop :=
  (∀ (s : State) (rest : List HostCall), s.params.ok = true →
    core.run 1 { s with calls := .byte 0x9B :: rest } = core.run 2 { s with calls := .byte 0x1B :: .byte 0x5B :: rest }) ∧
  (∀ (s : State) (ps : List Nat),
    exec (.hvp ps) s = exec (.cup ps) s ∧ exec (.hpa ps) s = exec (.cha ps) s ∧
    exec (.vpr ps) s = exec (.cud ps) s ∧ exec (.cnl ps) s = exec (.cud ps) s ∧
    exec (.cpl ps) s = exec (.cuu ps) s ∧ exec (.hpr ps) s = exec (.cuf ps) s) ∧
  (∀ s : State, exec (.cup []) s = exec (.cup [1, 1]) s ∧ exec (.cup [1, 1]) s = exec (.cup [0, 0]) s ∧
    exec (.sgr []) s = exec (.sgr [0]) s) ∧
  (∀ s : State, exec (.sgrBold 2) s = exec (.sgrBold 1) s ∧ exec (.sgrBold 4) s = exec (.sgrBold 1) s ∧
    exec (.sgrReverse 27) s = exec (.sgrReverse 7) s ∧ exec (.sgrBoldOff 24) s = exec (.sgrBoldOff 22) s) ∧
  (∀ s : State, exec .can s = exec .sub s ∧ exec .lf s = exec .vt s ∧ exec .vt s = exec .ff s)

end
end

