-- ==== Sys2Proof/Laws/Memory.lean ====
section
/-! SUPPORT. The laws of the grid as data: a read after a write gives the written cell and leaves every other cell alone, and
every operation keeps the canonical form. -/

namespace Sys2Proof.Machine

/-! ### Reads -/

theorem Memory.get_filter (d : Cell) (i j : Nat) (m : Memory) :
    Memory.get d j (m.filter (fun e => e.1 != i)) = if j = i then d else Memory.get d j m := by
  induction m with
  | nil => simp [Memory.get]
  | cons e rest ih =>
    obtain ⟨k, v⟩ := e
    by_cases hk : k = i
    · simp only [hk, bne_self_eq_false, Bool.false_eq_true, not_false_eq_true, List.filter_cons_of_neg, ih,
        Memory.get]
      by_cases hj : j = i
      · simp [hj]
      · simp [hj, Ne.symm hj]
    · have hb : (k != i) = true := by simpa using hk
      simp only [List.filter_cons, hb, if_true, Memory.get, ih]
      by_cases hj : k = j
      · simp [hj, show j ≠ i from hj ▸ hk]
      · simp [hj]

theorem Memory.get_insert (d : Cell) (i j : Nat) (v : Cell) (m : Memory) (h : ∀ e ∈ m, e.1 ≠ i) :
    Memory.get d j (Memory.insert i v m) = if j = i then v else Memory.get d j m := by
  induction m with
  | nil => simp [Memory.insert, Memory.get, eq_comm]
  | cons e rest ih =>
    obtain ⟨k, w⟩ := e
    have hk : k ≠ i := h (k, w) (by simp)
    have ih := ih (fun e he => h e (by simp [he]))
    simp only [Memory.insert]
    split
    · by_cases hj : j = i
      · simp [Memory.get, hj]
      · simp [Memory.get, hj, Ne.symm hj]
    · simp only [Memory.get, ih]
      by_cases hj : k = j
      · simp [hj, show j ≠ i from hj ▸ hk]
      · simp [hj]

/-- A read after a write: the written cell at its index, the old cell everywhere else. -/
theorem Memory.get_set (d : Cell) (i j : Nat) (v : Cell) (m : Memory) :
    Memory.get d j (Memory.set d i v m) = if j = i then v else Memory.get d j m := by
  have hno : ∀ e ∈ m.filter (fun e => e.1 != i), e.1 ≠ i := by
    intro e he
    simpa using (List.mem_filter.mp he).2
  simp only [Memory.set]
  split
  · rename_i hv
    rw [Memory.get_filter, hv]
  · rw [Memory.get_insert d i j v _ hno, Memory.get_filter]
    by_cases hj : j = i <;> simp [hj]

theorem Memory.get_filterMap (d : Cell) (f : Nat → Cell) (j : Nat) (l : List Nat) :
    Memory.get d j (l.filterMap (fun i => if f i = d then none else some (i, f i)))
      = if j ∈ l then f j else d := by
  induction l with
  | nil => simp [Memory.get]
  | cons i rest ih =>
    by_cases hf : f i = d
    · simp only [List.filterMap_cons, hf, if_true, ih, List.mem_cons]
      by_cases hj : j = i
      · simp [hj, hf]
      · simp [hj]
    · simp only [List.filterMap_cons, hf, if_false, Memory.get, ih, List.mem_cons]
      by_cases hj : j = i
      · simp [hj]
      · simp [hj, Ne.symm hj]

/-- The cells of a grid written at once. -/
theorem Memory.get_tabulate (d : Cell) (n : Nat) (f : Nat → Cell) (j : Nat) :
    Memory.get d j (Memory.tabulate d n f) = if j < n then f j else d := by
  simp [Memory.tabulate, Memory.get_filterMap]

/-! ### The canonical form -/

theorem Memory.rising_iff (m : Memory) :
    Memory.rising m = true ↔ m.Pairwise (fun a b => a.1 < b.1) := by
  induction m with
  | nil => simp [Memory.rising]
  | cons e rest ih =>
    obtain ⟨k, v⟩ := e
    cases rest with
    | nil => simp [Memory.rising]
    | cons e' rest' =>
      obtain ⟨l, w⟩ := e'
      simp only [Memory.rising, Bool.and_eq_true, decide_eq_true_eq, ih, List.pairwise_cons, List.mem_cons]
      constructor
      · rintro ⟨hkl, hl, hrest⟩
        refine ⟨?_, hl, hrest⟩
        rintro e (rfl | he)
        · exact hkl
        · exact lt_trans hkl (hl e he)
      · rintro ⟨hk, hl, hrest⟩
        exact ⟨hk (l, w) (Or.inl rfl), hl, hrest⟩

theorem Memory.wf_iff (d : Cell) (n : Nat) (m : Memory) :
    Memory.wf d n m = true ↔
      m.Pairwise (fun a b => a.1 < b.1) ∧ ∀ e ∈ m, e.1 < n ∧ e.2 ≠ d := by
  simp [Memory.wf, Memory.rising_iff]

theorem Memory.mem_insert (i : Nat) (v : Cell) (m : Memory) (e : Nat × Cell) :
    e ∈ Memory.insert i v m ↔ e = (i, v) ∨ e ∈ m := by
  induction m with
  | nil => simp [Memory.insert]
  | cons a rest ih =>
    obtain ⟨k, w⟩ := a
    simp only [Memory.insert]
    split <;> simp only [List.mem_cons, ih]
    tauto

theorem Memory.pairwise_insert (i : Nat) (v : Cell) (m : Memory)
    (hm : m.Pairwise (fun a b => a.1 < b.1)) (hno : ∀ e ∈ m, e.1 ≠ i) :
    (Memory.insert i v m).Pairwise (fun a b => a.1 < b.1) := by
  induction m with
  | nil => simp [Memory.insert]
  | cons a rest ih =>
    obtain ⟨k, w⟩ := a
    have hk : k ≠ i := hno (k, w) (by simp)
    rw [List.pairwise_cons] at hm
    simp only [Memory.insert]
    split
    · rename_i hik
      refine List.pairwise_cons.mpr ⟨?_, List.pairwise_cons.mpr hm⟩
      intro e he
      rcases List.mem_cons.mp he with rfl | he
      · exact hik
      · exact lt_trans hik (hm.1 e he)
    · rename_i hik
      refine List.pairwise_cons.mpr ⟨?_, ih hm.2 (fun e he => hno e (by simp [he]))⟩
      intro e he
      rcases (Memory.mem_insert i v rest e).mp he with rfl | he
      · show k < i
        omega
      · exact hm.1 e he

/-- A write to an index of the grid keeps the canonical form. -/
theorem Memory.wf_set (d : Cell) (n i : Nat) (v : Cell) (m : Memory)
    (hm : Memory.wf d n m = true) (hi : i < n) : Memory.wf d n (Memory.set d i v m) = true := by
  rw [Memory.wf_iff] at hm ⊢
  have hp : (m.filter (fun e => e.1 != i)).Pairwise (fun a b => a.1 < b.1) := hm.1.sublist List.filter_sublist
  have hall : ∀ e ∈ m.filter (fun e => e.1 != i), e.1 < n ∧ e.2 ≠ d := fun e he => hm.2 e (List.mem_of_mem_filter he)
  simp only [Memory.set]
  split
  · exact ⟨hp, hall⟩
  · rename_i hv
    refine ⟨Memory.pairwise_insert i v _ hp (fun e he => by simpa using (List.mem_filter.mp he).2), ?_⟩
    intro e he
    rcases (Memory.mem_insert i v _ e).mp he with rfl | he
    · exact ⟨hi, hv⟩
    · exact hall e he

/-- A grid written at once is in the canonical form. -/
theorem Memory.wf_tabulate (d : Cell) (n : Nat) (f : Nat → Cell) :
    Memory.wf d n (Memory.tabulate d n f) = true := by
  rw [Memory.wf_iff]
  refine ⟨?_, ?_⟩
  · refine List.Pairwise.filterMap _ ?_ List.pairwise_lt_range
    intro a b hab x hx y hy
    split at hx <;> simp at hx
    split at hy <;> simp at hy
    subst hx hy
    exact hab
  · intro e he
    obtain ⟨i, hi, hfi⟩ := List.mem_filterMap.mp he
    split at hfi
    · simp at hfi
    · rename_i hne
      simp only [Option.some.injEq] at hfi
      subst hfi
      exact ⟨List.mem_range.mp hi, hne⟩

/-- The empty list is a grid in the canonical form. -/
theorem Memory.wf_nil (d : Cell) (n : Nat) : Memory.wf d n [] = true := rfl

end Sys2Proof.Machine
end

