-- ==== Sys2Proof/Laws/State.lean ====
section
/-! SUPPORT. One lemma for each field and each named update of State: what the update leaves in the field. -/

namespace Sys2Proof.Machine

variable (s : State)

@[simp] theorem State.setGrid_params (g : Memory) : (s.setGrid g).params = s.params := rfl
@[simp] theorem State.setGrid_grid (g : Memory) : (s.setGrid g).grid = g := rfl
@[simp] theorem State.setGrid_row (g : Memory) : (s.setGrid g).row = s.row := rfl
@[simp] theorem State.setGrid_col (g : Memory) : (s.setGrid g).col = s.col := rfl
@[simp] theorem State.setGrid_scrollMin (g : Memory) : (s.setGrid g).scrollMin = s.scrollMin := rfl
@[simp] theorem State.setGrid_scrollMax (g : Memory) : (s.setGrid g).scrollMax = s.scrollMax := rfl
@[simp] theorem State.setGrid_curAttr (g : Memory) : (s.setGrid g).curAttr = s.curAttr := rfl
@[simp] theorem State.setGrid_word (g : Memory) : (s.setGrid g).word = s.word := rfl
@[simp] theorem State.setGrid_acc (g : Memory) : (s.setGrid g).acc = s.acc := rfl
@[simp] theorem State.setGrid_saveRow (g : Memory) : (s.setGrid g).saveRow = s.saveRow := rfl
@[simp] theorem State.setGrid_saveCol (g : Memory) : (s.setGrid g).saveCol = s.saveCol := rfl
@[simp] theorem State.setGrid_saveAttr (g : Memory) : (s.setGrid g).saveAttr = s.saveAttr := rfl
@[simp] theorem State.setGrid_csrRow (g : Memory) : (s.setGrid g).csrRow = s.csrRow := rfl
@[simp] theorem State.setGrid_csrCol (g : Memory) : (s.setGrid g).csrCol = s.csrCol := rfl
@[simp] theorem State.setGrid_sink (g : Memory) : (s.setGrid g).sink = s.sink := rfl
@[simp] theorem State.setGrid_out (g : Memory) : (s.setGrid g).out = s.out := rfl
@[simp] theorem State.setGrid_profile (g : Memory) : (s.setGrid g).profile = s.profile := rfl
@[simp] theorem State.setGrid_calls (g : Memory) : (s.setGrid g).calls = s.calls := rfl

@[simp] theorem State.setCursor_params (r : Nat) (c : Nat) : (s.setCursor r c).params = s.params := rfl
@[simp] theorem State.setCursor_grid (r : Nat) (c : Nat) : (s.setCursor r c).grid = s.grid := rfl
@[simp] theorem State.setCursor_row (r : Nat) (c : Nat) : (s.setCursor r c).row = r := rfl
@[simp] theorem State.setCursor_col (r : Nat) (c : Nat) : (s.setCursor r c).col = c := rfl
@[simp] theorem State.setCursor_scrollMin (r : Nat) (c : Nat) : (s.setCursor r c).scrollMin = s.scrollMin := rfl
@[simp] theorem State.setCursor_scrollMax (r : Nat) (c : Nat) : (s.setCursor r c).scrollMax = s.scrollMax := rfl
@[simp] theorem State.setCursor_curAttr (r : Nat) (c : Nat) : (s.setCursor r c).curAttr = s.curAttr := rfl
@[simp] theorem State.setCursor_word (r : Nat) (c : Nat) : (s.setCursor r c).word = s.word := rfl
@[simp] theorem State.setCursor_acc (r : Nat) (c : Nat) : (s.setCursor r c).acc = s.acc := rfl
@[simp] theorem State.setCursor_saveRow (r : Nat) (c : Nat) : (s.setCursor r c).saveRow = s.saveRow := rfl
@[simp] theorem State.setCursor_saveCol (r : Nat) (c : Nat) : (s.setCursor r c).saveCol = s.saveCol := rfl
@[simp] theorem State.setCursor_saveAttr (r : Nat) (c : Nat) : (s.setCursor r c).saveAttr = s.saveAttr := rfl
@[simp] theorem State.setCursor_csrRow (r : Nat) (c : Nat) : (s.setCursor r c).csrRow = s.csrRow := rfl
@[simp] theorem State.setCursor_csrCol (r : Nat) (c : Nat) : (s.setCursor r c).csrCol = s.csrCol := rfl
@[simp] theorem State.setCursor_sink (r : Nat) (c : Nat) : (s.setCursor r c).sink = s.sink := rfl
@[simp] theorem State.setCursor_out (r : Nat) (c : Nat) : (s.setCursor r c).out = s.out := rfl
@[simp] theorem State.setCursor_profile (r : Nat) (c : Nat) : (s.setCursor r c).profile = s.profile := rfl
@[simp] theorem State.setCursor_calls (r : Nat) (c : Nat) : (s.setCursor r c).calls = s.calls := rfl

@[simp] theorem State.setRegion_params (a : Nat) (b : Nat) : (s.setRegion a b).params = s.params := rfl
@[simp] theorem State.setRegion_grid (a : Nat) (b : Nat) : (s.setRegion a b).grid = s.grid := rfl
@[simp] theorem State.setRegion_row (a : Nat) (b : Nat) : (s.setRegion a b).row = s.row := rfl
@[simp] theorem State.setRegion_col (a : Nat) (b : Nat) : (s.setRegion a b).col = s.col := rfl
@[simp] theorem State.setRegion_scrollMin (a : Nat) (b : Nat) : (s.setRegion a b).scrollMin = a := rfl
@[simp] theorem State.setRegion_scrollMax (a : Nat) (b : Nat) : (s.setRegion a b).scrollMax = b := rfl
@[simp] theorem State.setRegion_curAttr (a : Nat) (b : Nat) : (s.setRegion a b).curAttr = s.curAttr := rfl
@[simp] theorem State.setRegion_word (a : Nat) (b : Nat) : (s.setRegion a b).word = s.word := rfl
@[simp] theorem State.setRegion_acc (a : Nat) (b : Nat) : (s.setRegion a b).acc = s.acc := rfl
@[simp] theorem State.setRegion_saveRow (a : Nat) (b : Nat) : (s.setRegion a b).saveRow = s.saveRow := rfl
@[simp] theorem State.setRegion_saveCol (a : Nat) (b : Nat) : (s.setRegion a b).saveCol = s.saveCol := rfl
@[simp] theorem State.setRegion_saveAttr (a : Nat) (b : Nat) : (s.setRegion a b).saveAttr = s.saveAttr := rfl
@[simp] theorem State.setRegion_csrRow (a : Nat) (b : Nat) : (s.setRegion a b).csrRow = s.csrRow := rfl
@[simp] theorem State.setRegion_csrCol (a : Nat) (b : Nat) : (s.setRegion a b).csrCol = s.csrCol := rfl
@[simp] theorem State.setRegion_sink (a : Nat) (b : Nat) : (s.setRegion a b).sink = s.sink := rfl
@[simp] theorem State.setRegion_out (a : Nat) (b : Nat) : (s.setRegion a b).out = s.out := rfl
@[simp] theorem State.setRegion_profile (a : Nat) (b : Nat) : (s.setRegion a b).profile = s.profile := rfl
@[simp] theorem State.setRegion_calls (a : Nat) (b : Nat) : (s.setRegion a b).calls = s.calls := rfl

@[simp] theorem State.setCurAttr_params (a : Attr) : (s.setCurAttr a).params = s.params := rfl
@[simp] theorem State.setCurAttr_grid (a : Attr) : (s.setCurAttr a).grid = s.grid := rfl
@[simp] theorem State.setCurAttr_row (a : Attr) : (s.setCurAttr a).row = s.row := rfl
@[simp] theorem State.setCurAttr_col (a : Attr) : (s.setCurAttr a).col = s.col := rfl
@[simp] theorem State.setCurAttr_scrollMin (a : Attr) : (s.setCurAttr a).scrollMin = s.scrollMin := rfl
@[simp] theorem State.setCurAttr_scrollMax (a : Attr) : (s.setCurAttr a).scrollMax = s.scrollMax := rfl
@[simp] theorem State.setCurAttr_curAttr (a : Attr) : (s.setCurAttr a).curAttr = a := rfl
@[simp] theorem State.setCurAttr_word (a : Attr) : (s.setCurAttr a).word = s.word := rfl
@[simp] theorem State.setCurAttr_acc (a : Attr) : (s.setCurAttr a).acc = s.acc := rfl
@[simp] theorem State.setCurAttr_saveRow (a : Attr) : (s.setCurAttr a).saveRow = s.saveRow := rfl
@[simp] theorem State.setCurAttr_saveCol (a : Attr) : (s.setCurAttr a).saveCol = s.saveCol := rfl
@[simp] theorem State.setCurAttr_saveAttr (a : Attr) : (s.setCurAttr a).saveAttr = s.saveAttr := rfl
@[simp] theorem State.setCurAttr_csrRow (a : Attr) : (s.setCurAttr a).csrRow = s.csrRow := rfl
@[simp] theorem State.setCurAttr_csrCol (a : Attr) : (s.setCurAttr a).csrCol = s.csrCol := rfl
@[simp] theorem State.setCurAttr_sink (a : Attr) : (s.setCurAttr a).sink = s.sink := rfl
@[simp] theorem State.setCurAttr_out (a : Attr) : (s.setCurAttr a).out = s.out := rfl
@[simp] theorem State.setCurAttr_profile (a : Attr) : (s.setCurAttr a).profile = s.profile := rfl
@[simp] theorem State.setCurAttr_calls (a : Attr) : (s.setCurAttr a).calls = s.calls := rfl

@[simp] theorem State.setWord_params (w : StateWord) : (s.setWord w).params = s.params := rfl
@[simp] theorem State.setWord_grid (w : StateWord) : (s.setWord w).grid = s.grid := rfl
@[simp] theorem State.setWord_row (w : StateWord) : (s.setWord w).row = s.row := rfl
@[simp] theorem State.setWord_col (w : StateWord) : (s.setWord w).col = s.col := rfl
@[simp] theorem State.setWord_scrollMin (w : StateWord) : (s.setWord w).scrollMin = s.scrollMin := rfl
@[simp] theorem State.setWord_scrollMax (w : StateWord) : (s.setWord w).scrollMax = s.scrollMax := rfl
@[simp] theorem State.setWord_curAttr (w : StateWord) : (s.setWord w).curAttr = s.curAttr := rfl
@[simp] theorem State.setWord_word (w : StateWord) : (s.setWord w).word = w := rfl
@[simp] theorem State.setWord_acc (w : StateWord) : (s.setWord w).acc = s.acc := rfl
@[simp] theorem State.setWord_saveRow (w : StateWord) : (s.setWord w).saveRow = s.saveRow := rfl
@[simp] theorem State.setWord_saveCol (w : StateWord) : (s.setWord w).saveCol = s.saveCol := rfl
@[simp] theorem State.setWord_saveAttr (w : StateWord) : (s.setWord w).saveAttr = s.saveAttr := rfl
@[simp] theorem State.setWord_csrRow (w : StateWord) : (s.setWord w).csrRow = s.csrRow := rfl
@[simp] theorem State.setWord_csrCol (w : StateWord) : (s.setWord w).csrCol = s.csrCol := rfl
@[simp] theorem State.setWord_sink (w : StateWord) : (s.setWord w).sink = s.sink := rfl
@[simp] theorem State.setWord_out (w : StateWord) : (s.setWord w).out = s.out := rfl
@[simp] theorem State.setWord_profile (w : StateWord) : (s.setWord w).profile = s.profile := rfl
@[simp] theorem State.setWord_calls (w : StateWord) : (s.setWord w).calls = s.calls := rfl

@[simp] theorem State.setParser_params (e : Bool) (l : List Byte) : (s.setParser e l).params = s.params := rfl
@[simp] theorem State.setParser_grid (e : Bool) (l : List Byte) : (s.setParser e l).grid = s.grid := rfl
@[simp] theorem State.setParser_row (e : Bool) (l : List Byte) : (s.setParser e l).row = s.row := rfl
@[simp] theorem State.setParser_col (e : Bool) (l : List Byte) : (s.setParser e l).col = s.col := rfl
@[simp] theorem State.setParser_scrollMin (e : Bool) (l : List Byte) : (s.setParser e l).scrollMin = s.scrollMin := rfl
@[simp] theorem State.setParser_scrollMax (e : Bool) (l : List Byte) : (s.setParser e l).scrollMax = s.scrollMax := rfl
@[simp] theorem State.setParser_curAttr (e : Bool) (l : List Byte) : (s.setParser e l).curAttr = s.curAttr := rfl
@[simp] theorem State.setParser_word (e : Bool) (l : List Byte) : (s.setParser e l).word = { s.word with esc := e } := rfl
@[simp] theorem State.setParser_acc (e : Bool) (l : List Byte) : (s.setParser e l).acc = l := rfl
@[simp] theorem State.setParser_saveRow (e : Bool) (l : List Byte) : (s.setParser e l).saveRow = s.saveRow := rfl
@[simp] theorem State.setParser_saveCol (e : Bool) (l : List Byte) : (s.setParser e l).saveCol = s.saveCol := rfl
@[simp] theorem State.setParser_saveAttr (e : Bool) (l : List Byte) : (s.setParser e l).saveAttr = s.saveAttr := rfl
@[simp] theorem State.setParser_csrRow (e : Bool) (l : List Byte) : (s.setParser e l).csrRow = s.csrRow := rfl
@[simp] theorem State.setParser_csrCol (e : Bool) (l : List Byte) : (s.setParser e l).csrCol = s.csrCol := rfl
@[simp] theorem State.setParser_sink (e : Bool) (l : List Byte) : (s.setParser e l).sink = s.sink := rfl
@[simp] theorem State.setParser_out (e : Bool) (l : List Byte) : (s.setParser e l).out = s.out := rfl
@[simp] theorem State.setParser_profile (e : Bool) (l : List Byte) : (s.setParser e l).profile = s.profile := rfl
@[simp] theorem State.setParser_calls (e : Bool) (l : List Byte) : (s.setParser e l).calls = s.calls := rfl

@[simp] theorem State.setAltcs_params (b : Bool) : (s.setAltcs b).params = s.params := rfl
@[simp] theorem State.setAltcs_grid (b : Bool) : (s.setAltcs b).grid = s.grid := rfl
@[simp] theorem State.setAltcs_row (b : Bool) : (s.setAltcs b).row = s.row := rfl
@[simp] theorem State.setAltcs_col (b : Bool) : (s.setAltcs b).col = s.col := rfl
@[simp] theorem State.setAltcs_scrollMin (b : Bool) : (s.setAltcs b).scrollMin = s.scrollMin := rfl
@[simp] theorem State.setAltcs_scrollMax (b : Bool) : (s.setAltcs b).scrollMax = s.scrollMax := rfl
@[simp] theorem State.setAltcs_curAttr (b : Bool) : (s.setAltcs b).curAttr = s.curAttr := rfl
@[simp] theorem State.setAltcs_word (b : Bool) : (s.setAltcs b).word = { s.word with altcs := b } := rfl
@[simp] theorem State.setAltcs_acc (b : Bool) : (s.setAltcs b).acc = s.acc := rfl
@[simp] theorem State.setAltcs_saveRow (b : Bool) : (s.setAltcs b).saveRow = s.saveRow := rfl
@[simp] theorem State.setAltcs_saveCol (b : Bool) : (s.setAltcs b).saveCol = s.saveCol := rfl
@[simp] theorem State.setAltcs_saveAttr (b : Bool) : (s.setAltcs b).saveAttr = s.saveAttr := rfl
@[simp] theorem State.setAltcs_csrRow (b : Bool) : (s.setAltcs b).csrRow = s.csrRow := rfl
@[simp] theorem State.setAltcs_csrCol (b : Bool) : (s.setAltcs b).csrCol = s.csrCol := rfl
@[simp] theorem State.setAltcs_sink (b : Bool) : (s.setAltcs b).sink = s.sink := rfl
@[simp] theorem State.setAltcs_out (b : Bool) : (s.setAltcs b).out = s.out := rfl
@[simp] theorem State.setAltcs_profile (b : Bool) : (s.setAltcs b).profile = s.profile := rfl
@[simp] theorem State.setAltcs_calls (b : Bool) : (s.setAltcs b).calls = s.calls := rfl

@[simp] theorem State.setCurinv_params (b : Bool) : (s.setCurinv b).params = s.params := rfl
@[simp] theorem State.setCurinv_grid (b : Bool) : (s.setCurinv b).grid = s.grid := rfl
@[simp] theorem State.setCurinv_row (b : Bool) : (s.setCurinv b).row = s.row := rfl
@[simp] theorem State.setCurinv_col (b : Bool) : (s.setCurinv b).col = s.col := rfl
@[simp] theorem State.setCurinv_scrollMin (b : Bool) : (s.setCurinv b).scrollMin = s.scrollMin := rfl
@[simp] theorem State.setCurinv_scrollMax (b : Bool) : (s.setCurinv b).scrollMax = s.scrollMax := rfl
@[simp] theorem State.setCurinv_curAttr (b : Bool) : (s.setCurinv b).curAttr = s.curAttr := rfl
@[simp] theorem State.setCurinv_word (b : Bool) : (s.setCurinv b).word = { s.word with curinv := b } := rfl
@[simp] theorem State.setCurinv_acc (b : Bool) : (s.setCurinv b).acc = s.acc := rfl
@[simp] theorem State.setCurinv_saveRow (b : Bool) : (s.setCurinv b).saveRow = s.saveRow := rfl
@[simp] theorem State.setCurinv_saveCol (b : Bool) : (s.setCurinv b).saveCol = s.saveCol := rfl
@[simp] theorem State.setCurinv_saveAttr (b : Bool) : (s.setCurinv b).saveAttr = s.saveAttr := rfl
@[simp] theorem State.setCurinv_csrRow (b : Bool) : (s.setCurinv b).csrRow = s.csrRow := rfl
@[simp] theorem State.setCurinv_csrCol (b : Bool) : (s.setCurinv b).csrCol = s.csrCol := rfl
@[simp] theorem State.setCurinv_sink (b : Bool) : (s.setCurinv b).sink = s.sink := rfl
@[simp] theorem State.setCurinv_out (b : Bool) : (s.setCurinv b).out = s.out := rfl
@[simp] theorem State.setCurinv_profile (b : Bool) : (s.setCurinv b).profile = s.profile := rfl
@[simp] theorem State.setCurinv_calls (b : Bool) : (s.setCurinv b).calls = s.calls := rfl

@[simp] theorem State.setShort_params (b : Bool) : (s.setShort b).params = s.params := rfl
@[simp] theorem State.setShort_grid (b : Bool) : (s.setShort b).grid = s.grid := rfl
@[simp] theorem State.setShort_row (b : Bool) : (s.setShort b).row = s.row := rfl
@[simp] theorem State.setShort_col (b : Bool) : (s.setShort b).col = s.col := rfl
@[simp] theorem State.setShort_scrollMin (b : Bool) : (s.setShort b).scrollMin = s.scrollMin := rfl
@[simp] theorem State.setShort_scrollMax (b : Bool) : (s.setShort b).scrollMax = s.scrollMax := rfl
@[simp] theorem State.setShort_curAttr (b : Bool) : (s.setShort b).curAttr = s.curAttr := rfl
@[simp] theorem State.setShort_word (b : Bool) : (s.setShort b).word = { s.word with short := b } := rfl
@[simp] theorem State.setShort_acc (b : Bool) : (s.setShort b).acc = s.acc := rfl
@[simp] theorem State.setShort_saveRow (b : Bool) : (s.setShort b).saveRow = s.saveRow := rfl
@[simp] theorem State.setShort_saveCol (b : Bool) : (s.setShort b).saveCol = s.saveCol := rfl
@[simp] theorem State.setShort_saveAttr (b : Bool) : (s.setShort b).saveAttr = s.saveAttr := rfl
@[simp] theorem State.setShort_csrRow (b : Bool) : (s.setShort b).csrRow = s.csrRow := rfl
@[simp] theorem State.setShort_csrCol (b : Bool) : (s.setShort b).csrCol = s.csrCol := rfl
@[simp] theorem State.setShort_sink (b : Bool) : (s.setShort b).sink = s.sink := rfl
@[simp] theorem State.setShort_out (b : Bool) : (s.setShort b).out = s.out := rfl
@[simp] theorem State.setShort_profile (b : Bool) : (s.setShort b).profile = s.profile := rfl
@[simp] theorem State.setShort_calls (b : Bool) : (s.setShort b).calls = s.calls := rfl

@[simp] theorem State.setModes_params (m : Modes) : (s.setModes m).params = s.params := rfl
@[simp] theorem State.setModes_grid (m : Modes) : (s.setModes m).grid = s.grid := rfl
@[simp] theorem State.setModes_row (m : Modes) : (s.setModes m).row = s.row := rfl
@[simp] theorem State.setModes_col (m : Modes) : (s.setModes m).col = s.col := rfl
@[simp] theorem State.setModes_scrollMin (m : Modes) : (s.setModes m).scrollMin = s.scrollMin := rfl
@[simp] theorem State.setModes_scrollMax (m : Modes) : (s.setModes m).scrollMax = s.scrollMax := rfl
@[simp] theorem State.setModes_curAttr (m : Modes) : (s.setModes m).curAttr = s.curAttr := rfl
@[simp] theorem State.setModes_word (m : Modes) : (s.setModes m).word = { s.word with modes := m } := rfl
@[simp] theorem State.setModes_acc (m : Modes) : (s.setModes m).acc = s.acc := rfl
@[simp] theorem State.setModes_saveRow (m : Modes) : (s.setModes m).saveRow = s.saveRow := rfl
@[simp] theorem State.setModes_saveCol (m : Modes) : (s.setModes m).saveCol = s.saveCol := rfl
@[simp] theorem State.setModes_saveAttr (m : Modes) : (s.setModes m).saveAttr = s.saveAttr := rfl
@[simp] theorem State.setModes_csrRow (m : Modes) : (s.setModes m).csrRow = s.csrRow := rfl
@[simp] theorem State.setModes_csrCol (m : Modes) : (s.setModes m).csrCol = s.csrCol := rfl
@[simp] theorem State.setModes_sink (m : Modes) : (s.setModes m).sink = s.sink := rfl
@[simp] theorem State.setModes_out (m : Modes) : (s.setModes m).out = s.out := rfl
@[simp] theorem State.setModes_profile (m : Modes) : (s.setModes m).profile = s.profile := rfl
@[simp] theorem State.setModes_calls (m : Modes) : (s.setModes m).calls = s.calls := rfl

@[simp] theorem State.setMode_params (m : ModeBit) : (s.setMode m).params = s.params := rfl
@[simp] theorem State.setMode_grid (m : ModeBit) : (s.setMode m).grid = s.grid := rfl
@[simp] theorem State.setMode_row (m : ModeBit) : (s.setMode m).row = s.row := rfl
@[simp] theorem State.setMode_col (m : ModeBit) : (s.setMode m).col = s.col := rfl
@[simp] theorem State.setMode_scrollMin (m : ModeBit) : (s.setMode m).scrollMin = s.scrollMin := rfl
@[simp] theorem State.setMode_scrollMax (m : ModeBit) : (s.setMode m).scrollMax = s.scrollMax := rfl
@[simp] theorem State.setMode_curAttr (m : ModeBit) : (s.setMode m).curAttr = s.curAttr := rfl
@[simp] theorem State.setMode_word (m : ModeBit) : (s.setMode m).word = { s.word with modes := withMode s.word.modes m } := rfl
@[simp] theorem State.setMode_acc (m : ModeBit) : (s.setMode m).acc = s.acc := rfl
@[simp] theorem State.setMode_saveRow (m : ModeBit) : (s.setMode m).saveRow = s.saveRow := rfl
@[simp] theorem State.setMode_saveCol (m : ModeBit) : (s.setMode m).saveCol = s.saveCol := rfl
@[simp] theorem State.setMode_saveAttr (m : ModeBit) : (s.setMode m).saveAttr = s.saveAttr := rfl
@[simp] theorem State.setMode_csrRow (m : ModeBit) : (s.setMode m).csrRow = s.csrRow := rfl
@[simp] theorem State.setMode_csrCol (m : ModeBit) : (s.setMode m).csrCol = s.csrCol := rfl
@[simp] theorem State.setMode_sink (m : ModeBit) : (s.setMode m).sink = s.sink := rfl
@[simp] theorem State.setMode_out (m : ModeBit) : (s.setMode m).out = s.out := rfl
@[simp] theorem State.setMode_profile (m : ModeBit) : (s.setMode m).profile = s.profile := rfl
@[simp] theorem State.setMode_calls (m : ModeBit) : (s.setMode m).calls = s.calls := rfl

@[simp] theorem State.setSave_params (r : Nat) (c : Nat) (a : Attr) (b : Bool) : (s.setSave r c a b).params = s.params := rfl
@[simp] theorem State.setSave_grid (r : Nat) (c : Nat) (a : Attr) (b : Bool) : (s.setSave r c a b).grid = s.grid := rfl
@[simp] theorem State.setSave_row (r : Nat) (c : Nat) (a : Attr) (b : Bool) : (s.setSave r c a b).row = s.row := rfl
@[simp] theorem State.setSave_col (r : Nat) (c : Nat) (a : Attr) (b : Bool) : (s.setSave r c a b).col = s.col := rfl
@[simp] theorem State.setSave_scrollMin (r : Nat) (c : Nat) (a : Attr) (b : Bool) : (s.setSave r c a b).scrollMin = s.scrollMin := rfl
@[simp] theorem State.setSave_scrollMax (r : Nat) (c : Nat) (a : Attr) (b : Bool) : (s.setSave r c a b).scrollMax = s.scrollMax := rfl
@[simp] theorem State.setSave_curAttr (r : Nat) (c : Nat) (a : Attr) (b : Bool) : (s.setSave r c a b).curAttr = s.curAttr := rfl
@[simp] theorem State.setSave_word (r : Nat) (c : Nat) (a : Attr) (b : Bool) : (s.setSave r c a b).word = { s.word with savedAltcs := b } := rfl
@[simp] theorem State.setSave_acc (r : Nat) (c : Nat) (a : Attr) (b : Bool) : (s.setSave r c a b).acc = s.acc := rfl
@[simp] theorem State.setSave_saveRow (r : Nat) (c : Nat) (a : Attr) (b : Bool) : (s.setSave r c a b).saveRow = r := rfl
@[simp] theorem State.setSave_saveCol (r : Nat) (c : Nat) (a : Attr) (b : Bool) : (s.setSave r c a b).saveCol = c := rfl
@[simp] theorem State.setSave_saveAttr (r : Nat) (c : Nat) (a : Attr) (b : Bool) : (s.setSave r c a b).saveAttr = a := rfl
@[simp] theorem State.setSave_csrRow (r : Nat) (c : Nat) (a : Attr) (b : Bool) : (s.setSave r c a b).csrRow = s.csrRow := rfl
@[simp] theorem State.setSave_csrCol (r : Nat) (c : Nat) (a : Attr) (b : Bool) : (s.setSave r c a b).csrCol = s.csrCol := rfl
@[simp] theorem State.setSave_sink (r : Nat) (c : Nat) (a : Attr) (b : Bool) : (s.setSave r c a b).sink = s.sink := rfl
@[simp] theorem State.setSave_out (r : Nat) (c : Nat) (a : Attr) (b : Bool) : (s.setSave r c a b).out = s.out := rfl
@[simp] theorem State.setSave_profile (r : Nat) (c : Nat) (a : Attr) (b : Bool) : (s.setSave r c a b).profile = s.profile := rfl
@[simp] theorem State.setSave_calls (r : Nat) (c : Nat) (a : Attr) (b : Bool) : (s.setSave r c a b).calls = s.calls := rfl

@[simp] theorem State.setSavePos_params (r : Nat) (c : Nat) : (s.setSavePos r c).params = s.params := rfl
@[simp] theorem State.setSavePos_grid (r : Nat) (c : Nat) : (s.setSavePos r c).grid = s.grid := rfl
@[simp] theorem State.setSavePos_row (r : Nat) (c : Nat) : (s.setSavePos r c).row = s.row := rfl
@[simp] theorem State.setSavePos_col (r : Nat) (c : Nat) : (s.setSavePos r c).col = s.col := rfl
@[simp] theorem State.setSavePos_scrollMin (r : Nat) (c : Nat) : (s.setSavePos r c).scrollMin = s.scrollMin := rfl
@[simp] theorem State.setSavePos_scrollMax (r : Nat) (c : Nat) : (s.setSavePos r c).scrollMax = s.scrollMax := rfl
@[simp] theorem State.setSavePos_curAttr (r : Nat) (c : Nat) : (s.setSavePos r c).curAttr = s.curAttr := rfl
@[simp] theorem State.setSavePos_word (r : Nat) (c : Nat) : (s.setSavePos r c).word = s.word := rfl
@[simp] theorem State.setSavePos_acc (r : Nat) (c : Nat) : (s.setSavePos r c).acc = s.acc := rfl
@[simp] theorem State.setSavePos_saveRow (r : Nat) (c : Nat) : (s.setSavePos r c).saveRow = r := rfl
@[simp] theorem State.setSavePos_saveCol (r : Nat) (c : Nat) : (s.setSavePos r c).saveCol = c := rfl
@[simp] theorem State.setSavePos_saveAttr (r : Nat) (c : Nat) : (s.setSavePos r c).saveAttr = s.saveAttr := rfl
@[simp] theorem State.setSavePos_csrRow (r : Nat) (c : Nat) : (s.setSavePos r c).csrRow = s.csrRow := rfl
@[simp] theorem State.setSavePos_csrCol (r : Nat) (c : Nat) : (s.setSavePos r c).csrCol = s.csrCol := rfl
@[simp] theorem State.setSavePos_sink (r : Nat) (c : Nat) : (s.setSavePos r c).sink = s.sink := rfl
@[simp] theorem State.setSavePos_out (r : Nat) (c : Nat) : (s.setSavePos r c).out = s.out := rfl
@[simp] theorem State.setSavePos_profile (r : Nat) (c : Nat) : (s.setSavePos r c).profile = s.profile := rfl
@[simp] theorem State.setSavePos_calls (r : Nat) (c : Nat) : (s.setSavePos r c).calls = s.calls := rfl

@[simp] theorem State.setCsr_params (r : Nat) (c : Nat) : (s.setCsr r c).params = s.params := rfl
@[simp] theorem State.setCsr_grid (r : Nat) (c : Nat) : (s.setCsr r c).grid = s.grid := rfl
@[simp] theorem State.setCsr_row (r : Nat) (c : Nat) : (s.setCsr r c).row = s.row := rfl
@[simp] theorem State.setCsr_col (r : Nat) (c : Nat) : (s.setCsr r c).col = s.col := rfl
@[simp] theorem State.setCsr_scrollMin (r : Nat) (c : Nat) : (s.setCsr r c).scrollMin = s.scrollMin := rfl
@[simp] theorem State.setCsr_scrollMax (r : Nat) (c : Nat) : (s.setCsr r c).scrollMax = s.scrollMax := rfl
@[simp] theorem State.setCsr_curAttr (r : Nat) (c : Nat) : (s.setCsr r c).curAttr = s.curAttr := rfl
@[simp] theorem State.setCsr_word (r : Nat) (c : Nat) : (s.setCsr r c).word = s.word := rfl
@[simp] theorem State.setCsr_acc (r : Nat) (c : Nat) : (s.setCsr r c).acc = s.acc := rfl
@[simp] theorem State.setCsr_saveRow (r : Nat) (c : Nat) : (s.setCsr r c).saveRow = s.saveRow := rfl
@[simp] theorem State.setCsr_saveCol (r : Nat) (c : Nat) : (s.setCsr r c).saveCol = s.saveCol := rfl
@[simp] theorem State.setCsr_saveAttr (r : Nat) (c : Nat) : (s.setCsr r c).saveAttr = s.saveAttr := rfl
@[simp] theorem State.setCsr_csrRow (r : Nat) (c : Nat) : (s.setCsr r c).csrRow = r := rfl
@[simp] theorem State.setCsr_csrCol (r : Nat) (c : Nat) : (s.setCsr r c).csrCol = c := rfl
@[simp] theorem State.setCsr_sink (r : Nat) (c : Nat) : (s.setCsr r c).sink = s.sink := rfl
@[simp] theorem State.setCsr_out (r : Nat) (c : Nat) : (s.setCsr r c).out = s.out := rfl
@[simp] theorem State.setCsr_profile (r : Nat) (c : Nat) : (s.setCsr r c).profile = s.profile := rfl
@[simp] theorem State.setCsr_calls (r : Nat) (c : Nat) : (s.setCsr r c).calls = s.calls := rfl

@[simp] theorem State.setProfile_params (p : Profile) : (s.setProfile p).params = s.params := rfl
@[simp] theorem State.setProfile_grid (p : Profile) : (s.setProfile p).grid = s.grid := rfl
@[simp] theorem State.setProfile_row (p : Profile) : (s.setProfile p).row = s.row := rfl
@[simp] theorem State.setProfile_col (p : Profile) : (s.setProfile p).col = s.col := rfl
@[simp] theorem State.setProfile_scrollMin (p : Profile) : (s.setProfile p).scrollMin = s.scrollMin := rfl
@[simp] theorem State.setProfile_scrollMax (p : Profile) : (s.setProfile p).scrollMax = s.scrollMax := rfl
@[simp] theorem State.setProfile_curAttr (p : Profile) : (s.setProfile p).curAttr = s.curAttr := rfl
@[simp] theorem State.setProfile_word (p : Profile) : (s.setProfile p).word = s.word := rfl
@[simp] theorem State.setProfile_acc (p : Profile) : (s.setProfile p).acc = s.acc := rfl
@[simp] theorem State.setProfile_saveRow (p : Profile) : (s.setProfile p).saveRow = s.saveRow := rfl
@[simp] theorem State.setProfile_saveCol (p : Profile) : (s.setProfile p).saveCol = s.saveCol := rfl
@[simp] theorem State.setProfile_saveAttr (p : Profile) : (s.setProfile p).saveAttr = s.saveAttr := rfl
@[simp] theorem State.setProfile_csrRow (p : Profile) : (s.setProfile p).csrRow = s.csrRow := rfl
@[simp] theorem State.setProfile_csrCol (p : Profile) : (s.setProfile p).csrCol = s.csrCol := rfl
@[simp] theorem State.setProfile_sink (p : Profile) : (s.setProfile p).sink = s.sink := rfl
@[simp] theorem State.setProfile_out (p : Profile) : (s.setProfile p).out = s.out := rfl
@[simp] theorem State.setProfile_profile (p : Profile) : (s.setProfile p).profile = p := rfl
@[simp] theorem State.setProfile_calls (p : Profile) : (s.setProfile p).calls = s.calls := rfl

@[simp] theorem State.setCalls_params (l : List HostCall) : (s.setCalls l).params = s.params := rfl
@[simp] theorem State.setCalls_grid (l : List HostCall) : (s.setCalls l).grid = s.grid := rfl
@[simp] theorem State.setCalls_row (l : List HostCall) : (s.setCalls l).row = s.row := rfl
@[simp] theorem State.setCalls_col (l : List HostCall) : (s.setCalls l).col = s.col := rfl
@[simp] theorem State.setCalls_scrollMin (l : List HostCall) : (s.setCalls l).scrollMin = s.scrollMin := rfl
@[simp] theorem State.setCalls_scrollMax (l : List HostCall) : (s.setCalls l).scrollMax = s.scrollMax := rfl
@[simp] theorem State.setCalls_curAttr (l : List HostCall) : (s.setCalls l).curAttr = s.curAttr := rfl
@[simp] theorem State.setCalls_word (l : List HostCall) : (s.setCalls l).word = s.word := rfl
@[simp] theorem State.setCalls_acc (l : List HostCall) : (s.setCalls l).acc = s.acc := rfl
@[simp] theorem State.setCalls_saveRow (l : List HostCall) : (s.setCalls l).saveRow = s.saveRow := rfl
@[simp] theorem State.setCalls_saveCol (l : List HostCall) : (s.setCalls l).saveCol = s.saveCol := rfl
@[simp] theorem State.setCalls_saveAttr (l : List HostCall) : (s.setCalls l).saveAttr = s.saveAttr := rfl
@[simp] theorem State.setCalls_csrRow (l : List HostCall) : (s.setCalls l).csrRow = s.csrRow := rfl
@[simp] theorem State.setCalls_csrCol (l : List HostCall) : (s.setCalls l).csrCol = s.csrCol := rfl
@[simp] theorem State.setCalls_sink (l : List HostCall) : (s.setCalls l).sink = s.sink := rfl
@[simp] theorem State.setCalls_out (l : List HostCall) : (s.setCalls l).out = s.out := rfl
@[simp] theorem State.setCalls_profile (l : List HostCall) : (s.setCalls l).profile = s.profile := rfl
@[simp] theorem State.setCalls_calls (l : List HostCall) : (s.setCalls l).calls = l := rfl

@[simp] theorem State.emitAll_params (es : List SinkEvent) : (s.emitAll es).params = s.params := rfl
@[simp] theorem State.emitAll_grid (es : List SinkEvent) : (s.emitAll es).grid = s.grid := rfl
@[simp] theorem State.emitAll_row (es : List SinkEvent) : (s.emitAll es).row = s.row := rfl
@[simp] theorem State.emitAll_col (es : List SinkEvent) : (s.emitAll es).col = s.col := rfl
@[simp] theorem State.emitAll_scrollMin (es : List SinkEvent) : (s.emitAll es).scrollMin = s.scrollMin := rfl
@[simp] theorem State.emitAll_scrollMax (es : List SinkEvent) : (s.emitAll es).scrollMax = s.scrollMax := rfl
@[simp] theorem State.emitAll_curAttr (es : List SinkEvent) : (s.emitAll es).curAttr = s.curAttr := rfl
@[simp] theorem State.emitAll_word (es : List SinkEvent) : (s.emitAll es).word = s.word := rfl
@[simp] theorem State.emitAll_acc (es : List SinkEvent) : (s.emitAll es).acc = s.acc := rfl
@[simp] theorem State.emitAll_saveRow (es : List SinkEvent) : (s.emitAll es).saveRow = s.saveRow := rfl
@[simp] theorem State.emitAll_saveCol (es : List SinkEvent) : (s.emitAll es).saveCol = s.saveCol := rfl
@[simp] theorem State.emitAll_saveAttr (es : List SinkEvent) : (s.emitAll es).saveAttr = s.saveAttr := rfl
@[simp] theorem State.emitAll_csrRow (es : List SinkEvent) : (s.emitAll es).csrRow = s.csrRow := rfl
@[simp] theorem State.emitAll_csrCol (es : List SinkEvent) : (s.emitAll es).csrCol = s.csrCol := rfl
@[simp] theorem State.emitAll_sink (es : List SinkEvent) : (s.emitAll es).sink = s.sink ++ es := rfl
@[simp] theorem State.emitAll_out (es : List SinkEvent) : (s.emitAll es).out = s.out := rfl
@[simp] theorem State.emitAll_profile (es : List SinkEvent) : (s.emitAll es).profile = s.profile := rfl
@[simp] theorem State.emitAll_calls (es : List SinkEvent) : (s.emitAll es).calls = s.calls := rfl

@[simp] theorem State.emit_params (e : SinkEvent) : (s.emit e).params = s.params := rfl
@[simp] theorem State.emit_grid (e : SinkEvent) : (s.emit e).grid = s.grid := rfl
@[simp] theorem State.emit_row (e : SinkEvent) : (s.emit e).row = s.row := rfl
@[simp] theorem State.emit_col (e : SinkEvent) : (s.emit e).col = s.col := rfl
@[simp] theorem State.emit_scrollMin (e : SinkEvent) : (s.emit e).scrollMin = s.scrollMin := rfl
@[simp] theorem State.emit_scrollMax (e : SinkEvent) : (s.emit e).scrollMax = s.scrollMax := rfl
@[simp] theorem State.emit_curAttr (e : SinkEvent) : (s.emit e).curAttr = s.curAttr := rfl
@[simp] theorem State.emit_word (e : SinkEvent) : (s.emit e).word = s.word := rfl
@[simp] theorem State.emit_acc (e : SinkEvent) : (s.emit e).acc = s.acc := rfl
@[simp] theorem State.emit_saveRow (e : SinkEvent) : (s.emit e).saveRow = s.saveRow := rfl
@[simp] theorem State.emit_saveCol (e : SinkEvent) : (s.emit e).saveCol = s.saveCol := rfl
@[simp] theorem State.emit_saveAttr (e : SinkEvent) : (s.emit e).saveAttr = s.saveAttr := rfl
@[simp] theorem State.emit_csrRow (e : SinkEvent) : (s.emit e).csrRow = s.csrRow := rfl
@[simp] theorem State.emit_csrCol (e : SinkEvent) : (s.emit e).csrCol = s.csrCol := rfl
@[simp] theorem State.emit_sink (e : SinkEvent) : (s.emit e).sink = s.sink ++ [e] := rfl
@[simp] theorem State.emit_out (e : SinkEvent) : (s.emit e).out = s.out := rfl
@[simp] theorem State.emit_profile (e : SinkEvent) : (s.emit e).profile = s.profile := rfl
@[simp] theorem State.emit_calls (e : SinkEvent) : (s.emit e).calls = s.calls := rfl

@[simp] theorem State.outBytes_params (bs : List Byte) : (s.outBytes bs).params = s.params := rfl
@[simp] theorem State.outBytes_grid (bs : List Byte) : (s.outBytes bs).grid = s.grid := rfl
@[simp] theorem State.outBytes_row (bs : List Byte) : (s.outBytes bs).row = s.row := rfl
@[simp] theorem State.outBytes_col (bs : List Byte) : (s.outBytes bs).col = s.col := rfl
@[simp] theorem State.outBytes_scrollMin (bs : List Byte) : (s.outBytes bs).scrollMin = s.scrollMin := rfl
@[simp] theorem State.outBytes_scrollMax (bs : List Byte) : (s.outBytes bs).scrollMax = s.scrollMax := rfl
@[simp] theorem State.outBytes_curAttr (bs : List Byte) : (s.outBytes bs).curAttr = s.curAttr := rfl
@[simp] theorem State.outBytes_word (bs : List Byte) : (s.outBytes bs).word = s.word := rfl
@[simp] theorem State.outBytes_acc (bs : List Byte) : (s.outBytes bs).acc = s.acc := rfl
@[simp] theorem State.outBytes_saveRow (bs : List Byte) : (s.outBytes bs).saveRow = s.saveRow := rfl
@[simp] theorem State.outBytes_saveCol (bs : List Byte) : (s.outBytes bs).saveCol = s.saveCol := rfl
@[simp] theorem State.outBytes_saveAttr (bs : List Byte) : (s.outBytes bs).saveAttr = s.saveAttr := rfl
@[simp] theorem State.outBytes_csrRow (bs : List Byte) : (s.outBytes bs).csrRow = s.csrRow := rfl
@[simp] theorem State.outBytes_csrCol (bs : List Byte) : (s.outBytes bs).csrCol = s.csrCol := rfl
@[simp] theorem State.outBytes_sink (bs : List Byte) : (s.outBytes bs).sink = s.sink := rfl
@[simp] theorem State.outBytes_out (bs : List Byte) : (s.outBytes bs).out = s.out ++ bs := rfl
@[simp] theorem State.outBytes_profile (bs : List Byte) : (s.outBytes bs).profile = s.profile := rfl
@[simp] theorem State.outBytes_calls (bs : List Byte) : (s.outBytes bs).calls = s.calls := rfl

@[simp] theorem State.fillGrid_params (f : Nat → Nat → Cell) : (s.fillGrid f).params = s.params := rfl
@[simp] theorem State.fillGrid_grid (f : Nat → Nat → Cell) : (s.fillGrid f).grid = Memory.tabulate (resetCell s.params) s.size
      (fun i => f (i / s.params.cols) (i % s.params.cols)) := rfl
@[simp] theorem State.fillGrid_row (f : Nat → Nat → Cell) : (s.fillGrid f).row = s.row := rfl
@[simp] theorem State.fillGrid_col (f : Nat → Nat → Cell) : (s.fillGrid f).col = s.col := rfl
@[simp] theorem State.fillGrid_scrollMin (f : Nat → Nat → Cell) : (s.fillGrid f).scrollMin = s.scrollMin := rfl
@[simp] theorem State.fillGrid_scrollMax (f : Nat → Nat → Cell) : (s.fillGrid f).scrollMax = s.scrollMax := rfl
@[simp] theorem State.fillGrid_curAttr (f : Nat → Nat → Cell) : (s.fillGrid f).curAttr = s.curAttr := rfl
@[simp] theorem State.fillGrid_word (f : Nat → Nat → Cell) : (s.fillGrid f).word = s.word := rfl
@[simp] theorem State.fillGrid_acc (f : Nat → Nat → Cell) : (s.fillGrid f).acc = s.acc := rfl
@[simp] theorem State.fillGrid_saveRow (f : Nat → Nat → Cell) : (s.fillGrid f).saveRow = s.saveRow := rfl
@[simp] theorem State.fillGrid_saveCol (f : Nat → Nat → Cell) : (s.fillGrid f).saveCol = s.saveCol := rfl
@[simp] theorem State.fillGrid_saveAttr (f : Nat → Nat → Cell) : (s.fillGrid f).saveAttr = s.saveAttr := rfl
@[simp] theorem State.fillGrid_csrRow (f : Nat → Nat → Cell) : (s.fillGrid f).csrRow = s.csrRow := rfl
@[simp] theorem State.fillGrid_csrCol (f : Nat → Nat → Cell) : (s.fillGrid f).csrCol = s.csrCol := rfl
@[simp] theorem State.fillGrid_sink (f : Nat → Nat → Cell) : (s.fillGrid f).sink = s.sink := rfl
@[simp] theorem State.fillGrid_out (f : Nat → Nat → Cell) : (s.fillGrid f).out = s.out := rfl
@[simp] theorem State.fillGrid_profile (f : Nat → Nat → Cell) : (s.fillGrid f).profile = s.profile := rfl
@[simp] theorem State.fillGrid_calls (f : Nat → Nat → Cell) : (s.fillGrid f).calls = s.calls := rfl

@[simp] theorem cancel_params : (cancel s).params = s.params := rfl
@[simp] theorem cancel_grid : (cancel s).grid = s.grid := rfl
@[simp] theorem cancel_row : (cancel s).row = s.row := rfl
@[simp] theorem cancel_col : (cancel s).col = s.col := rfl
@[simp] theorem cancel_scrollMin : (cancel s).scrollMin = s.scrollMin := rfl
@[simp] theorem cancel_scrollMax : (cancel s).scrollMax = s.scrollMax := rfl
@[simp] theorem cancel_curAttr : (cancel s).curAttr = s.curAttr := rfl
@[simp] theorem cancel_word : (cancel s).word = { s.word with esc := false } := rfl
@[simp] theorem cancel_acc : (cancel s).acc = [] := rfl
@[simp] theorem cancel_saveRow : (cancel s).saveRow = s.saveRow := rfl
@[simp] theorem cancel_saveCol : (cancel s).saveCol = s.saveCol := rfl
@[simp] theorem cancel_saveAttr : (cancel s).saveAttr = s.saveAttr := rfl
@[simp] theorem cancel_csrRow : (cancel s).csrRow = s.csrRow := rfl
@[simp] theorem cancel_csrCol : (cancel s).csrCol = s.csrCol := rfl
@[simp] theorem cancel_sink : (cancel s).sink = s.sink := rfl
@[simp] theorem cancel_out : (cancel s).out = s.out := rfl
@[simp] theorem cancel_profile : (cancel s).profile = s.profile := rfl
@[simp] theorem cancel_calls : (cancel s).calls = s.calls := rfl

@[simp] theorem push_params (b : Byte) : (push b s).params = s.params := rfl
@[simp] theorem push_grid (b : Byte) : (push b s).grid = s.grid := rfl
@[simp] theorem push_row (b : Byte) : (push b s).row = s.row := rfl
@[simp] theorem push_col (b : Byte) : (push b s).col = s.col := rfl
@[simp] theorem push_scrollMin (b : Byte) : (push b s).scrollMin = s.scrollMin := rfl
@[simp] theorem push_scrollMax (b : Byte) : (push b s).scrollMax = s.scrollMax := rfl
@[simp] theorem push_curAttr (b : Byte) : (push b s).curAttr = s.curAttr := rfl
@[simp] theorem push_word (b : Byte) : (push b s).word = s.word := rfl
@[simp] theorem push_acc (b : Byte) : (push b s).acc = s.acc ++ [b] := rfl
@[simp] theorem push_saveRow (b : Byte) : (push b s).saveRow = s.saveRow := rfl
@[simp] theorem push_saveCol (b : Byte) : (push b s).saveCol = s.saveCol := rfl
@[simp] theorem push_saveAttr (b : Byte) : (push b s).saveAttr = s.saveAttr := rfl
@[simp] theorem push_csrRow (b : Byte) : (push b s).csrRow = s.csrRow := rfl
@[simp] theorem push_csrCol (b : Byte) : (push b s).csrCol = s.csrCol := rfl
@[simp] theorem push_sink (b : Byte) : (push b s).sink = s.sink := rfl
@[simp] theorem push_out (b : Byte) : (push b s).out = s.out := rfl
@[simp] theorem push_profile (b : Byte) : (push b s).profile = s.profile := rfl
@[simp] theorem push_calls (b : Byte) : (push b s).calls = s.calls := rfl

end Sys2Proof.Machine
end

