-- ==== Sys2Proof/Laws/Grid.lean ====
section
/-! SUPPORT. The grid through the cell read `cellAt`: addresses and their row-major indices, what each named update leaves of
the cells, a write, and a grid written at once. -/

namespace Sys2Proof.Machine

/-! ### Addresses -/

theorem State.inGrid_iff (s : State) (r c : Nat) :
    s.inGrid r c = true ↔ r < s.params.rows ∧ c < s.params.cols := by
  simp [State.inGrid]

theorem State.index_lt (s : State) {r c : Nat} (hr : r < s.params.rows) (hc : c < s.params.cols) :
    s.index r c < s.size := by
  have : (r + 1) * s.params.cols ≤ s.params.rows * s.params.cols := Nat.mul_le_mul_right _ hr
  simp only [State.index, State.size]
  rw [Nat.succ_mul] at this
  omega

theorem State.index_div (s : State) {r c : Nat} (hc : c < s.params.cols) : s.index r c / s.params.cols = r := by
  have hpos : 0 < s.params.cols := Nat.zero_lt_of_lt hc
  rw [State.index, Nat.mul_comm, Nat.mul_add_div hpos, Nat.div_eq_of_lt hc, Nat.add_zero]

theorem State.index_mod (s : State) {r c : Nat} (hc : c < s.params.cols) : s.index r c % s.params.cols = c := by
  rw [State.index, Nat.mul_comm, Nat.mul_add_mod, Nat.mod_eq_of_lt hc]

/-- Two addresses with one row-major index are equal (20_memory.md R50). -/
theorem State.index_inj (s : State) {r c r' c' : Nat} (hc : c < s.params.cols) (hc' : c' < s.params.cols)
    (h : s.index r c = s.index r' c') : r = r' ∧ c = c' := by
  constructor
  · rw [← s.index_div (r := r) hc, ← s.index_div (r := r') hc', h]
  · rw [← s.index_mod (r := r) hc, ← s.index_mod (r := r') hc', h]

theorem State.row_lt_of_index (s : State) {i : Nat} (h : i < s.size) : i / s.params.cols < s.params.rows := by
  exact Nat.div_lt_of_lt_mul (by rw [Nat.mul_comm]; exact h)

theorem State.index_of_div_mod (s : State) (i : Nat) :
    s.index (i / s.params.cols) (i % s.params.cols) = i := by
  rw [State.index, Nat.mul_comm]
  exact Nat.div_add_mod i s.params.cols

/-- The row-major order of two addresses (20_memory.md R50). -/
theorem State.index_le_iff (s : State) {r c r' c' : Nat} (hc : c < s.params.cols) (hc' : c' < s.params.cols) :
    s.index r c ≤ s.index r' c' ↔ r < r' ∨ (r = r' ∧ c ≤ c') := by
  simp only [State.index]
  constructor
  · intro h
    by_contra hn
    have h1 : r' ≤ r := by omega
    rcases Nat.lt_or_ge r' r with hlt | hge
    · have : (r' + 1) * s.params.cols ≤ r * s.params.cols := Nat.mul_le_mul_right _ hlt
      rw [Nat.succ_mul] at this
      omega
    · have : r = r' := by omega
      subst this
      omega
  · rintro (hlt | ⟨rfl, hle⟩)
    · have : (r + 1) * s.params.cols ≤ r' * s.params.cols := Nat.mul_le_mul_right _ hlt
      rw [Nat.succ_mul] at this
      omega
    · omega

/-! ### What the updates leave of the cells -/

theorem State.cellAt_congr {s t : State} (hp : t.params = s.params) (hg : t.grid = s.grid) (r c : Nat) :
    t.cellAt r c = s.cellAt r c := by
  simp [State.cellAt, State.inGrid, State.rawCell, State.index, hp, hg]

@[simp] theorem State.inGrid_setGrid (s : State) (g : Memory) (i j : Nat) : (s.setGrid g).inGrid i j = s.inGrid i j := rfl
@[simp] theorem State.index_setGrid (s : State) (g : Memory) (i j : Nat) : (s.setGrid g).index i j = s.index i j := rfl
@[simp] theorem State.size_setGrid (s : State) (g : Memory) : (s.setGrid g).size = s.size := rfl
@[simp] theorem State.blank_setGrid (s : State) (g : Memory) : (s.setGrid g).blank = s.blank := rfl
@[simp] theorem State.cc_setGrid (s : State) (g : Memory) : (s.setGrid g).cc = s.cc := rfl

@[simp] theorem State.cellAt_setCursor (s : State) (r : Nat) (c : Nat) (i j : Nat) : (s.setCursor r c).cellAt i j = s.cellAt i j := rfl
@[simp] theorem State.rawCell_setCursor (s : State) (r : Nat) (c : Nat) (i j : Nat) : (s.setCursor r c).rawCell i j = s.rawCell i j := rfl
@[simp] theorem State.inGrid_setCursor (s : State) (r : Nat) (c : Nat) (i j : Nat) : (s.setCursor r c).inGrid i j = s.inGrid i j := rfl
@[simp] theorem State.index_setCursor (s : State) (r : Nat) (c : Nat) (i j : Nat) : (s.setCursor r c).index i j = s.index i j := rfl
@[simp] theorem State.size_setCursor (s : State) (r : Nat) (c : Nat) : (s.setCursor r c).size = s.size := rfl
@[simp] theorem State.blank_setCursor (s : State) (r : Nat) (c : Nat) : (s.setCursor r c).blank = s.blank := rfl

@[simp] theorem State.cellAt_setRegion (s : State) (a : Nat) (b : Nat) (i j : Nat) : (s.setRegion a b).cellAt i j = s.cellAt i j := rfl
@[simp] theorem State.rawCell_setRegion (s : State) (a : Nat) (b : Nat) (i j : Nat) : (s.setRegion a b).rawCell i j = s.rawCell i j := rfl
@[simp] theorem State.inGrid_setRegion (s : State) (a : Nat) (b : Nat) (i j : Nat) : (s.setRegion a b).inGrid i j = s.inGrid i j := rfl
@[simp] theorem State.index_setRegion (s : State) (a : Nat) (b : Nat) (i j : Nat) : (s.setRegion a b).index i j = s.index i j := rfl
@[simp] theorem State.size_setRegion (s : State) (a : Nat) (b : Nat) : (s.setRegion a b).size = s.size := rfl
@[simp] theorem State.blank_setRegion (s : State) (a : Nat) (b : Nat) : (s.setRegion a b).blank = s.blank := rfl
@[simp] theorem State.cc_setRegion (s : State) (a : Nat) (b : Nat) : (s.setRegion a b).cc = s.cc := rfl

@[simp] theorem State.cellAt_setCurAttr (s : State) (a : Attr) (i j : Nat) : (s.setCurAttr a).cellAt i j = s.cellAt i j := rfl
@[simp] theorem State.rawCell_setCurAttr (s : State) (a : Attr) (i j : Nat) : (s.setCurAttr a).rawCell i j = s.rawCell i j := rfl
@[simp] theorem State.inGrid_setCurAttr (s : State) (a : Attr) (i j : Nat) : (s.setCurAttr a).inGrid i j = s.inGrid i j := rfl
@[simp] theorem State.index_setCurAttr (s : State) (a : Attr) (i j : Nat) : (s.setCurAttr a).index i j = s.index i j := rfl
@[simp] theorem State.size_setCurAttr (s : State) (a : Attr) : (s.setCurAttr a).size = s.size := rfl
@[simp] theorem State.cc_setCurAttr (s : State) (a : Attr) : (s.setCurAttr a).cc = s.cc := rfl

@[simp] theorem State.cellAt_setWord (s : State) (w : StateWord) (i j : Nat) : (s.setWord w).cellAt i j = s.cellAt i j := rfl
@[simp] theorem State.rawCell_setWord (s : State) (w : StateWord) (i j : Nat) : (s.setWord w).rawCell i j = s.rawCell i j := rfl
@[simp] theorem State.inGrid_setWord (s : State) (w : StateWord) (i j : Nat) : (s.setWord w).inGrid i j = s.inGrid i j := rfl
@[simp] theorem State.index_setWord (s : State) (w : StateWord) (i j : Nat) : (s.setWord w).index i j = s.index i j := rfl
@[simp] theorem State.size_setWord (s : State) (w : StateWord) : (s.setWord w).size = s.size := rfl
@[simp] theorem State.blank_setWord (s : State) (w : StateWord) : (s.setWord w).blank = s.blank := rfl
@[simp] theorem State.cc_setWord (s : State) (w : StateWord) : (s.setWord w).cc = s.cc := rfl

@[simp] theorem State.cellAt_setParser (s : State) (e : Bool) (l : List Byte) (i j : Nat) : (s.setParser e l).cellAt i j = s.cellAt i j := rfl
@[simp] theorem State.rawCell_setParser (s : State) (e : Bool) (l : List Byte) (i j : Nat) : (s.setParser e l).rawCell i j = s.rawCell i j := rfl
@[simp] theorem State.inGrid_setParser (s : State) (e : Bool) (l : List Byte) (i j : Nat) : (s.setParser e l).inGrid i j = s.inGrid i j := rfl
@[simp] theorem State.index_setParser (s : State) (e : Bool) (l : List Byte) (i j : Nat) : (s.setParser e l).index i j = s.index i j := rfl
@[simp] theorem State.size_setParser (s : State) (e : Bool) (l : List Byte) : (s.setParser e l).size = s.size := rfl
@[simp] theorem State.blank_setParser (s : State) (e : Bool) (l : List Byte) : (s.setParser e l).blank = s.blank := rfl
@[simp] theorem State.cc_setParser (s : State) (e : Bool) (l : List Byte) : (s.setParser e l).cc = s.cc := rfl

@[simp] theorem State.cellAt_setAltcs (s : State) (b : Bool) (i j : Nat) : (s.setAltcs b).cellAt i j = s.cellAt i j := rfl
@[simp] theorem State.rawCell_setAltcs (s : State) (b : Bool) (i j : Nat) : (s.setAltcs b).rawCell i j = s.rawCell i j := rfl
@[simp] theorem State.inGrid_setAltcs (s : State) (b : Bool) (i j : Nat) : (s.setAltcs b).inGrid i j = s.inGrid i j := rfl
@[simp] theorem State.index_setAltcs (s : State) (b : Bool) (i j : Nat) : (s.setAltcs b).index i j = s.index i j := rfl
@[simp] theorem State.size_setAltcs (s : State) (b : Bool) : (s.setAltcs b).size = s.size := rfl
@[simp] theorem State.blank_setAltcs (s : State) (b : Bool) : (s.setAltcs b).blank = s.blank := rfl
@[simp] theorem State.cc_setAltcs (s : State) (b : Bool) : (s.setAltcs b).cc = s.cc := rfl

@[simp] theorem State.cellAt_setCurinv (s : State) (b : Bool) (i j : Nat) : (s.setCurinv b).cellAt i j = s.cellAt i j := rfl
@[simp] theorem State.rawCell_setCurinv (s : State) (b : Bool) (i j : Nat) : (s.setCurinv b).rawCell i j = s.rawCell i j := rfl
@[simp] theorem State.inGrid_setCurinv (s : State) (b : Bool) (i j : Nat) : (s.setCurinv b).inGrid i j = s.inGrid i j := rfl
@[simp] theorem State.index_setCurinv (s : State) (b : Bool) (i j : Nat) : (s.setCurinv b).index i j = s.index i j := rfl
@[simp] theorem State.size_setCurinv (s : State) (b : Bool) : (s.setCurinv b).size = s.size := rfl
@[simp] theorem State.blank_setCurinv (s : State) (b : Bool) : (s.setCurinv b).blank = s.blank := rfl
@[simp] theorem State.cc_setCurinv (s : State) (b : Bool) : (s.setCurinv b).cc = s.cc := rfl

@[simp] theorem State.cellAt_setShort (s : State) (b : Bool) (i j : Nat) : (s.setShort b).cellAt i j = s.cellAt i j := rfl
@[simp] theorem State.rawCell_setShort (s : State) (b : Bool) (i j : Nat) : (s.setShort b).rawCell i j = s.rawCell i j := rfl
@[simp] theorem State.inGrid_setShort (s : State) (b : Bool) (i j : Nat) : (s.setShort b).inGrid i j = s.inGrid i j := rfl
@[simp] theorem State.index_setShort (s : State) (b : Bool) (i j : Nat) : (s.setShort b).index i j = s.index i j := rfl
@[simp] theorem State.size_setShort (s : State) (b : Bool) : (s.setShort b).size = s.size := rfl
@[simp] theorem State.blank_setShort (s : State) (b : Bool) : (s.setShort b).blank = s.blank := rfl
@[simp] theorem State.cc_setShort (s : State) (b : Bool) : (s.setShort b).cc = s.cc := rfl

@[simp] theorem State.cellAt_setModes (s : State) (m : Modes) (i j : Nat) : (s.setModes m).cellAt i j = s.cellAt i j := rfl
@[simp] theorem State.rawCell_setModes (s : State) (m : Modes) (i j : Nat) : (s.setModes m).rawCell i j = s.rawCell i j := rfl
@[simp] theorem State.inGrid_setModes (s : State) (m : Modes) (i j : Nat) : (s.setModes m).inGrid i j = s.inGrid i j := rfl
@[simp] theorem State.index_setModes (s : State) (m : Modes) (i j : Nat) : (s.setModes m).index i j = s.index i j := rfl
@[simp] theorem State.size_setModes (s : State) (m : Modes) : (s.setModes m).size = s.size := rfl
@[simp] theorem State.blank_setModes (s : State) (m : Modes) : (s.setModes m).blank = s.blank := rfl
@[simp] theorem State.cc_setModes (s : State) (m : Modes) : (s.setModes m).cc = s.cc := rfl

@[simp] theorem State.cellAt_setMode (s : State) (m : ModeBit) (i j : Nat) : (s.setMode m).cellAt i j = s.cellAt i j := rfl
@[simp] theorem State.rawCell_setMode (s : State) (m : ModeBit) (i j : Nat) : (s.setMode m).rawCell i j = s.rawCell i j := rfl
@[simp] theorem State.inGrid_setMode (s : State) (m : ModeBit) (i j : Nat) : (s.setMode m).inGrid i j = s.inGrid i j := rfl
@[simp] theorem State.index_setMode (s : State) (m : ModeBit) (i j : Nat) : (s.setMode m).index i j = s.index i j := rfl
@[simp] theorem State.size_setMode (s : State) (m : ModeBit) : (s.setMode m).size = s.size := rfl
@[simp] theorem State.blank_setMode (s : State) (m : ModeBit) : (s.setMode m).blank = s.blank := rfl
@[simp] theorem State.cc_setMode (s : State) (m : ModeBit) : (s.setMode m).cc = s.cc := rfl

@[simp] theorem State.cellAt_setSave (s : State) (r : Nat) (c : Nat) (a : Attr) (b : Bool) (i j : Nat) : (s.setSave r c a b).cellAt i j = s.cellAt i j := rfl
@[simp] theorem State.rawCell_setSave (s : State) (r : Nat) (c : Nat) (a : Attr) (b : Bool) (i j : Nat) : (s.setSave r c a b).rawCell i j = s.rawCell i j := rfl
@[simp] theorem State.inGrid_setSave (s : State) (r : Nat) (c : Nat) (a : Attr) (b : Bool) (i j : Nat) : (s.setSave r c a b).inGrid i j = s.inGrid i j := rfl
@[simp] theorem State.index_setSave (s : State) (r : Nat) (c : Nat) (a : Attr) (b : Bool) (i j : Nat) : (s.setSave r c a b).index i j = s.index i j := rfl
@[simp] theorem State.size_setSave (s : State) (r : Nat) (c : Nat) (a : Attr) (b : Bool) : (s.setSave r c a b).size = s.size := rfl
@[simp] theorem State.blank_setSave (s : State) (r : Nat) (c : Nat) (a : Attr) (b : Bool) : (s.setSave r c a b).blank = s.blank := rfl
@[simp] theorem State.cc_setSave (s : State) (r : Nat) (c : Nat) (a : Attr) (b : Bool) : (s.setSave r c a b).cc = s.cc := rfl

@[simp] theorem State.cellAt_setSavePos (s : State) (r : Nat) (c : Nat) (i j : Nat) : (s.setSavePos r c).cellAt i j = s.cellAt i j := rfl
@[simp] theorem State.rawCell_setSavePos (s : State) (r : Nat) (c : Nat) (i j : Nat) : (s.setSavePos r c).rawCell i j = s.rawCell i j := rfl
@[simp] theorem State.inGrid_setSavePos (s : State) (r : Nat) (c : Nat) (i j : Nat) : (s.setSavePos r c).inGrid i j = s.inGrid i j := rfl
@[simp] theorem State.index_setSavePos (s : State) (r : Nat) (c : Nat) (i j : Nat) : (s.setSavePos r c).index i j = s.index i j := rfl
@[simp] theorem State.size_setSavePos (s : State) (r : Nat) (c : Nat) : (s.setSavePos r c).size = s.size := rfl
@[simp] theorem State.blank_setSavePos (s : State) (r : Nat) (c : Nat) : (s.setSavePos r c).blank = s.blank := rfl
@[simp] theorem State.cc_setSavePos (s : State) (r : Nat) (c : Nat) : (s.setSavePos r c).cc = s.cc := rfl

@[simp] theorem State.cellAt_setCsr (s : State) (r : Nat) (c : Nat) (i j : Nat) : (s.setCsr r c).cellAt i j = s.cellAt i j := rfl
@[simp] theorem State.rawCell_setCsr (s : State) (r : Nat) (c : Nat) (i j : Nat) : (s.setCsr r c).rawCell i j = s.rawCell i j := rfl
@[simp] theorem State.inGrid_setCsr (s : State) (r : Nat) (c : Nat) (i j : Nat) : (s.setCsr r c).inGrid i j = s.inGrid i j := rfl
@[simp] theorem State.index_setCsr (s : State) (r : Nat) (c : Nat) (i j : Nat) : (s.setCsr r c).index i j = s.index i j := rfl
@[simp] theorem State.size_setCsr (s : State) (r : Nat) (c : Nat) : (s.setCsr r c).size = s.size := rfl
@[simp] theorem State.blank_setCsr (s : State) (r : Nat) (c : Nat) : (s.setCsr r c).blank = s.blank := rfl
@[simp] theorem State.cc_setCsr (s : State) (r : Nat) (c : Nat) : (s.setCsr r c).cc = s.cc := rfl

@[simp] theorem State.cellAt_setProfile (s : State) (p : Profile) (i j : Nat) : (s.setProfile p).cellAt i j = s.cellAt i j := rfl
@[simp] theorem State.rawCell_setProfile (s : State) (p : Profile) (i j : Nat) : (s.setProfile p).rawCell i j = s.rawCell i j := rfl
@[simp] theorem State.inGrid_setProfile (s : State) (p : Profile) (i j : Nat) : (s.setProfile p).inGrid i j = s.inGrid i j := rfl
@[simp] theorem State.index_setProfile (s : State) (p : Profile) (i j : Nat) : (s.setProfile p).index i j = s.index i j := rfl
@[simp] theorem State.size_setProfile (s : State) (p : Profile) : (s.setProfile p).size = s.size := rfl
@[simp] theorem State.blank_setProfile (s : State) (p : Profile) : (s.setProfile p).blank = s.blank := rfl
@[simp] theorem State.cc_setProfile (s : State) (p : Profile) : (s.setProfile p).cc = s.cc := rfl

@[simp] theorem State.cellAt_setCalls (s : State) (l : List HostCall) (i j : Nat) : (s.setCalls l).cellAt i j = s.cellAt i j := rfl
@[simp] theorem State.rawCell_setCalls (s : State) (l : List HostCall) (i j : Nat) : (s.setCalls l).rawCell i j = s.rawCell i j := rfl
@[simp] theorem State.inGrid_setCalls (s : State) (l : List HostCall) (i j : Nat) : (s.setCalls l).inGrid i j = s.inGrid i j := rfl
@[simp] theorem State.index_setCalls (s : State) (l : List HostCall) (i j : Nat) : (s.setCalls l).index i j = s.index i j := rfl
@[simp] theorem State.size_setCalls (s : State) (l : List HostCall) : (s.setCalls l).size = s.size := rfl
@[simp] theorem State.blank_setCalls (s : State) (l : List HostCall) : (s.setCalls l).blank = s.blank := rfl
@[simp] theorem State.cc_setCalls (s : State) (l : List HostCall) : (s.setCalls l).cc = s.cc := rfl

@[simp] theorem State.cellAt_emitAll (s : State) (es : List SinkEvent) (i j : Nat) : (s.emitAll es).cellAt i j = s.cellAt i j := rfl
@[simp] theorem State.rawCell_emitAll (s : State) (es : List SinkEvent) (i j : Nat) : (s.emitAll es).rawCell i j = s.rawCell i j := rfl
@[simp] theorem State.inGrid_emitAll (s : State) (es : List SinkEvent) (i j : Nat) : (s.emitAll es).inGrid i j = s.inGrid i j := rfl
@[simp] theorem State.index_emitAll (s : State) (es : List SinkEvent) (i j : Nat) : (s.emitAll es).index i j = s.index i j := rfl
@[simp] theorem State.size_emitAll (s : State) (es : List SinkEvent) : (s.emitAll es).size = s.size := rfl
@[simp] theorem State.blank_emitAll (s : State) (es : List SinkEvent) : (s.emitAll es).blank = s.blank := rfl
@[simp] theorem State.cc_emitAll (s : State) (es : List SinkEvent) : (s.emitAll es).cc = s.cc := rfl

@[simp] theorem State.cellAt_emit (s : State) (e : SinkEvent) (i j : Nat) : (s.emit e).cellAt i j = s.cellAt i j := rfl
@[simp] theorem State.rawCell_emit (s : State) (e : SinkEvent) (i j : Nat) : (s.emit e).rawCell i j = s.rawCell i j := rfl
@[simp] theorem State.inGrid_emit (s : State) (e : SinkEvent) (i j : Nat) : (s.emit e).inGrid i j = s.inGrid i j := rfl
@[simp] theorem State.index_emit (s : State) (e : SinkEvent) (i j : Nat) : (s.emit e).index i j = s.index i j := rfl
@[simp] theorem State.size_emit (s : State) (e : SinkEvent) : (s.emit e).size = s.size := rfl
@[simp] theorem State.blank_emit (s : State) (e : SinkEvent) : (s.emit e).blank = s.blank := rfl
@[simp] theorem State.cc_emit (s : State) (e : SinkEvent) : (s.emit e).cc = s.cc := rfl

@[simp] theorem State.cellAt_outBytes (s : State) (bs : List Byte) (i j : Nat) : (s.outBytes bs).cellAt i j = s.cellAt i j := rfl
@[simp] theorem State.rawCell_outBytes (s : State) (bs : List Byte) (i j : Nat) : (s.outBytes bs).rawCell i j = s.rawCell i j := rfl
@[simp] theorem State.inGrid_outBytes (s : State) (bs : List Byte) (i j : Nat) : (s.outBytes bs).inGrid i j = s.inGrid i j := rfl
@[simp] theorem State.index_outBytes (s : State) (bs : List Byte) (i j : Nat) : (s.outBytes bs).index i j = s.index i j := rfl
@[simp] theorem State.size_outBytes (s : State) (bs : List Byte) : (s.outBytes bs).size = s.size := rfl
@[simp] theorem State.blank_outBytes (s : State) (bs : List Byte) : (s.outBytes bs).blank = s.blank := rfl
@[simp] theorem State.cc_outBytes (s : State) (bs : List Byte) : (s.outBytes bs).cc = s.cc := rfl

@[simp] theorem State.inGrid_fillGrid (s : State) (f : Nat → Nat → Cell) (i j : Nat) : (s.fillGrid f).inGrid i j = s.inGrid i j := rfl
@[simp] theorem State.index_fillGrid (s : State) (f : Nat → Nat → Cell) (i j : Nat) : (s.fillGrid f).index i j = s.index i j := rfl
@[simp] theorem State.size_fillGrid (s : State) (f : Nat → Nat → Cell) : (s.fillGrid f).size = s.size := rfl
@[simp] theorem State.blank_fillGrid (s : State) (f : Nat → Nat → Cell) : (s.fillGrid f).blank = s.blank := rfl
@[simp] theorem State.cc_fillGrid (s : State) (f : Nat → Nat → Cell) : (s.fillGrid f).cc = s.cc := rfl

@[simp] theorem cellAt_cancel (s : State) (i j : Nat) : (cancel s).cellAt i j = s.cellAt i j := rfl
@[simp] theorem cellAt_push (b : Byte) (s : State) (i j : Nat) : (push b s).cellAt i j = s.cellAt i j := rfl

/-! ### A write, and a grid written at once -/

/-- `MemWrite` (20_memory.md R54): the cell at the address, and no other. -/
theorem State.cellAt_write (s : State) {r c : Nat} (v : Cell) (hr : r < s.params.rows) (hc : c < s.params.cols)
    (i j : Nat) :
    (s.setGrid (Memory.set (resetCell s.params) (s.index r c) v s.grid)).cellAt i j
      = if i = r ∧ j = c then some v else s.cellAt i j := by
  have hgrid : (s.setGrid (Memory.set (resetCell s.params) (s.index r c) v s.grid)).rawCell i j
      = if s.index i j = s.index r c then v else s.rawCell i j := by
    simp [State.rawCell, Memory.get_set]
  simp only [State.cellAt, State.inGrid_setGrid, hgrid]
  by_cases hin : s.inGrid i j = true
  · have hj := ((s.inGrid_iff i j).mp hin).2
    by_cases he : s.index i j = s.index r c
    · obtain ⟨rfl, rfl⟩ := s.index_inj hj hc he
      simp [hin]
    · have : ¬ (i = r ∧ j = c) := by
        rintro ⟨rfl, rfl⟩
        exact he rfl
      simp [hin, he, this]
  · have : ¬ (i = r ∧ j = c) := by
      rintro ⟨rfl, rfl⟩
      exact hin ((s.inGrid_iff i j).mpr ⟨hr, hc⟩)
    simp [hin, this]

theorem memWrite_next (s : State) {r c : Nat} (v : Cell) (hr : r < s.params.rows) (hc : c < s.params.cols) :
    memWrite r c v s = .next (s.setGrid (Memory.set (resetCell s.params) (s.index r c) v s.grid)) := by
  simp [memWrite, State.inGrid, hr, hc]

/-- The cells of a grid written at once. -/
theorem State.cellAt_fillGrid (s : State) (f : Nat → Nat → Cell) (r c : Nat) :
    (s.fillGrid f).cellAt r c = if s.inGrid r c then some (f r c) else none := by
  simp only [State.cellAt, State.inGrid_fillGrid]
  by_cases hin : s.inGrid r c = true
  · obtain ⟨hr, hc⟩ := (s.inGrid_iff r c).mp hin
    simp [hin, State.rawCell, Memory.get_tabulate, s.index_lt hr hc, s.index_div hc, s.index_mod hc]
  · simp [hin]

/-- The canonical form after a grid written at once. -/
theorem State.gridWf_fillGrid (s : State) (f : Nat → Nat → Cell) :
    Memory.wf (resetCell (s.fillGrid f).params) (s.fillGrid f).size (s.fillGrid f).grid = true :=
  Memory.wf_tabulate _ _ _

/-- The canonical form after a write. -/
theorem State.gridWf_write (s : State) {r c : Nat} (v : Cell) (hr : r < s.params.rows) (hc : c < s.params.cols)
    (hm : Memory.wf (resetCell s.params) s.size s.grid = true) :
    Memory.wf (resetCell s.params) s.size (Memory.set (resetCell s.params) (s.index r c) v s.grid) = true :=
  Memory.wf_set _ _ _ _ _ hm (s.index_lt hr hc)

theorem State.cc_lt (s : State) (h : 0 < s.params.cols) : s.cc < s.params.cols := by
  simp only [State.cc]
  omega

end Sys2Proof.Machine
end

