-- ==== Sys2Proof/Laws/Ops.lean ====
section
/-! SUPPORT. For each shared operation, when it answers a next state and everything that state holds: the cells, the events,
and the rest unchanged. -/

namespace Sys2Proof

theorem keymapOk_iff (m : Keymap) : keymapOk m = true ↔ ∀ e ∈ m, e.2 ≠ [] := by
  simp [keymapOk]

/-- When the parameters are legal. -/
theorem Params.ok_iff {p : Params} : p.ok = true ↔
    1 ≤ p.rows ∧ 1 ≤ p.cols ∧ 2 ≤ p.accCap ∧ (∀ e ∈ p.keymapMinimal ++ p.keymapRich, e.2 ≠ []) := by
  simp only [Params.ok, Bool.and_eq_true, decide_eq_true_eq, keymapOk_iff, List.forall_mem_append, and_assoc]

end Sys2Proof

namespace Sys2Proof.Machine

/-- The string of a key is its entry, empty where the keymap has none. -/
theorem keyString_eq (k : KeyIdent) (m : Keymap) : keyString k m = (m.lookup k).getD [] := by
  induction m with
  | nil => rfl
  | cons e rest ih =>
    obtain ⟨l, bs⟩ := e
    by_cases h : l = k
    · simp [keyString, h]
    · simp [keyString, h, ih, List.lookup_cons, beq_eq_false_iff_ne.mpr (Ne.symm h)]

/-! ### Sequencing -/

@[simp] theorem andThen_next (s : State) (f : State → Out) : andThen (.next s) f = f s := rfl
@[simp] theorem andThen_fault (r : Fault) (f : State → Out) : andThen (.fault r) f = .fault r := rfl
@[simp] theorem andThen_refused (r : Refusal) (f : State → Out) : andThen (.refused r) f = .refused r := rfl

theorem andThen_assoc (o : Out) (f g : State → Out) :
    andThen (andThen o f) g = andThen o (fun s => andThen (f s) g) := by
  cases o <;> rfl

/-- A sequence answers a next state exactly if both parts do. -/
theorem andThen_eq_next {o : Out} {f : State → Out} {t : State} :
    andThen o f = .next t ↔ ∃ m, o = .next m ∧ f m = .next t := by
  cases o <;> simp [andThen]

@[simp] theorem thenCancel_next (s : State) : thenCancel (.next s) = .next (cancel s) := rfl

theorem thenCancel_eq_next {o : Out} {t : State} :
    thenCancel o = .next t ↔ ∃ m, o = .next m ∧ t = cancel m := by
  rw [thenCancel, andThen_eq_next]
  simp only [Host.Outcome.next.injEq]
  exact exists_congr fun m => and_congr_right fun _ => eq_comm

@[simp] theorem walk_nil (f : Nat → State → Out) (s : State) : walk f [] s = .next s := rfl

@[simp] theorem walk_cons (f : Nat → State → Out) (p : Nat) (ps : List Nat) (s : State) :
    walk f (p :: ps) s = andThen (f p s) (walk f ps) := rfl

/-- An invariant that each parameter keeps holds after all of them. -/
theorem walk_keeps {P : State → Prop} {f : Nat → State → Out}
    (h : ∀ p s t, P s → f p s = .next t → P t) :
    ∀ ps s t, P s → walk f ps s = .next t → P t := by
  intro ps
  induction ps with
  | nil =>
    intro s t hs ht
    simp only [walk_nil, Host.Outcome.next.injEq] at ht
    exact ht ▸ hs
  | cons p rest ih =>
    intro s t hs ht
    obtain ⟨m, hm, hmt⟩ := andThen_eq_next.mp (by simpa using ht)
    exact ih m t (h p s m hs hm) hmt

/-! ### Accumulator (40_parser_control.md R103, R104) -/

theorem boundCheck_open (s : State) (h : s.word.esc = false ∨ s.acc.length ≠ s.params.accCap) :
    boundCheck s = s := by
  unfold boundCheck
  rcases h with h | h <;> simp [h]

theorem boundCheck_full (s : State) (he : s.word.esc = true) (hl : s.acc.length = s.params.accCap) :
    boundCheck s = cancel s := by
  simp [boundCheck, he, hl]

@[simp] theorem boundCheck_cancel (s : State) : boundCheck (cancel s) = cancel s := by
  apply boundCheck_open
  simp

/-! ### Clamps (00_scope.md R10) -/

theorem clampTo_le (v : Int) (hi : Nat) : clampTo v hi ≤ hi := by
  simp only [clampTo]
  omega

theorem clampTo_eq (v : Int) (hi : Nat) :
    (clampTo v hi : Int) = if v < 0 then 0 else if (hi : Int) < v then (hi : Int) else v := by
  simp only [clampTo]
  split
  · omega
  · split <;> omega

theorem amount_pos (ps : List Nat) : 1 ≤ amount ps := by
  unfold amount
  cases ps with
  | nil => simp
  | cons p rest =>
    simp only
    split <;> omega

/-! ### Region shifts (20_memory.md R56) -/

theorem cellAt_of_inGrid (s : State) {r c : Nat} (h : s.inGrid r c = true) : s.cellAt r c = some (s.rawCell r c) := by
  simp [State.cellAt, h]

/-- `ShiftUp`: the cells of the region come from `n` rows below, or are blank; nothing else changes. -/
theorem shiftUp_next (s : State) {top bot : Nat} (n : Nat) (htb : top ≤ bot) (hb : bot < s.params.rows) :
    ∃ t, shiftUp top bot n s = .next t ∧ t = s.setGrid t.grid ∧ t.memWf = true ∧
      ∀ r c, t.cellAt r c =
        if top ≤ r ∧ r ≤ bot then
          (if r + n ≤ bot then s.cellAt (r + n) c else if c < s.params.cols then some s.blank else none)
        else s.cellAt r c := by
  refine ⟨_, by rw [shiftUp, if_pos ⟨htb, hb⟩], rfl, State.gridWf_fillGrid _ _, ?_⟩
  intro r c
  rw [State.cellAt_fillGrid]
  by_cases hin : s.inGrid r c = true
  · obtain ⟨hr, hc⟩ := (s.inGrid_iff r c).mp hin
    simp only [hin, if_true]
    by_cases hreg : top ≤ r ∧ r ≤ bot
    · have h1 : ¬ (r < top ∨ bot < r) := by omega
      simp only [h1, hreg, and_self, if_true, if_false]
      by_cases hn : r + n ≤ bot
      · have h2 : min n (bot - top + 1) = n := by omega
        have hin2 : s.inGrid (r + n) c = true := (s.inGrid_iff _ _).mpr ⟨by omega, hc⟩
        simp [h2, hn, cellAt_of_inGrid s hin2]
      · have h2 : ¬ (r + min n (bot - top + 1) ≤ bot) := by omega
        rw [if_neg hn, if_pos hc, if_neg h2]
    · have h1 : r < top ∨ bot < r := by omega
      rw [if_neg hreg, if_pos h1, cellAt_of_inGrid s hin]
  · have hout : ¬ (r < s.params.rows ∧ c < s.params.cols) := fun h => hin ((s.inGrid_iff r c).mpr h)
    have hold : s.cellAt r c = none := by simp [State.cellAt, hin]
    simp only [hin, hold]
    by_cases hreg : top ≤ r ∧ r ≤ bot
    · have hc : ¬ c < s.params.cols := by omega
      have hin2 : s.inGrid (r + n) c ≠ true := fun h => hc ((s.inGrid_iff _ _).mp h).2
      simp [hreg, hc, State.cellAt, hin2]
    · simp [hreg]

/-- `ShiftDown`: the cells of the region come from `n` rows above, or are blank; nothing else changes. -/
theorem shiftDown_next (s : State) {top bot : Nat} (n : Nat) (htb : top ≤ bot) (hb : bot < s.params.rows) :
    ∃ t, shiftDown top bot n s = .next t ∧ t = s.setGrid t.grid ∧ t.memWf = true ∧
      ∀ r c, t.cellAt r c =
        if top ≤ r ∧ r ≤ bot then
          (if top + n ≤ r then s.cellAt (r - n) c else if c < s.params.cols then some s.blank else none)
        else s.cellAt r c := by
  refine ⟨_, by rw [shiftDown, if_pos ⟨htb, hb⟩], rfl, State.gridWf_fillGrid _ _, ?_⟩
  intro r c
  rw [State.cellAt_fillGrid]
  by_cases hin : s.inGrid r c = true
  · obtain ⟨hr, hc⟩ := (s.inGrid_iff r c).mp hin
    simp only [hin, if_true]
    by_cases hreg : top ≤ r ∧ r ≤ bot
    · have h1 : ¬ (r < top ∨ bot < r) := by omega
      simp only [h1, hreg, and_self, if_true, if_false]
      by_cases hn : top + n ≤ r
      · have h2 : min n (bot - top + 1) = n := by omega
        have hin2 : s.inGrid (r - n) c = true := (s.inGrid_iff _ _).mpr ⟨by omega, hc⟩
        simp [h2, hn, cellAt_of_inGrid s hin2]
      · have h2 : ¬ (top + min n (bot - top + 1) ≤ r) := by omega
        rw [if_neg hn, if_pos hc, if_neg h2]
    · have h1 : r < top ∨ bot < r := by omega
      rw [if_neg hreg, if_pos h1, cellAt_of_inGrid s hin]
  · have hout : ¬ (r < s.params.rows ∧ c < s.params.cols) := fun h => hin ((s.inGrid_iff r c).mpr h)
    have hold : s.cellAt r c = none := by simp [State.cellAt, hin]
    simp only [hin, hold]
    by_cases hreg : top ≤ r ∧ r ≤ bot
    · have hc : ¬ c < s.params.cols := by omega
      have hin2 : s.inGrid (r - n) c ≠ true := fun h => hc ((s.inGrid_iff _ _).mp h).2
      simp [hreg, hc, State.cellAt, hin2]
    · simp [hreg]

theorem shiftUp_inv {s t : State} {top bot n : Nat} (h : shiftUp top bot n s = .next t) :
    top ≤ bot ∧ bot < s.params.rows := by
  unfold shiftUp at h
  split at h
  · assumption
  · cases h

theorem shiftDown_inv {s t : State} {top bot n : Nat} (h : shiftDown top bot n s = .next t) :
    top ≤ bot ∧ bot < s.params.rows := by
  unfold shiftDown at h
  split at h
  · assumption
  · cases h

/-! ### Index and reverse index (20_memory.md R57, R58) -/

/-- `Index` at the bottom margin: the region scrolls up by one row. -/
theorem index_scroll (s : State) (h : s.row = s.scrollMax) (hle : s.scrollMin ≤ s.scrollMax)
    (hb : s.scrollMax < s.params.rows) :
    ∃ t, index s = .next t ∧ t = (s.setGrid t.grid).emit .invScreen ∧ t.memWf = true ∧
      ∀ r c, t.cellAt r c =
        if s.scrollMin ≤ r ∧ r ≤ s.scrollMax then
          (if r + 1 ≤ s.scrollMax then s.cellAt (r + 1) c else if c < s.params.cols then some s.blank else none)
        else s.cellAt r c := by
  obtain ⟨m, hm, hgrid, hwf, hcells⟩ := shiftUp_next s 1 hle hb
  refine ⟨m.emit .invScreen, by simp [index, h, hm], ?_, hwf, fun r c => by simpa using hcells r c⟩
  conv_lhs => rw [hgrid]
  rfl

/-- `Index` away from the bottom margin: the cursor moves down, but not past the last row. -/
theorem index_move (s : State) (h : s.row ≠ s.scrollMax) :
    index s = .next ((s.setCursor (if s.row + 1 < s.params.rows then s.row + 1 else s.row) s.col).emit .invCursor) := by
  simp [index, h]

/-- `ReverseIndex` at the top margin: the region scrolls down by one row. -/
theorem reverseIndex_scroll (s : State) (h : s.row = s.scrollMin) (hle : s.scrollMin ≤ s.scrollMax)
    (hb : s.scrollMax < s.params.rows) :
    ∃ t, reverseIndex s = .next t ∧ t = (s.setGrid t.grid).emit .invScreen ∧ t.memWf = true ∧
      ∀ r c, t.cellAt r c =
        if s.scrollMin ≤ r ∧ r ≤ s.scrollMax then
          (if s.scrollMin + 1 ≤ r then s.cellAt (r - 1) c else if c < s.params.cols then some s.blank else none)
        else s.cellAt r c := by
  obtain ⟨m, hm, hgrid, hwf, hcells⟩ := shiftDown_next s 1 hle hb
  refine ⟨m.emit .invScreen, by simp [reverseIndex, h, hm], ?_, hwf, fun r c => by simpa using hcells r c⟩
  conv_lhs => rw [hgrid]
  rfl

/-- `ReverseIndex` away from the top margin: the cursor moves up, but not past row 0. -/
theorem reverseIndex_move (s : State) (h : s.row ≠ s.scrollMin) :
    reverseIndex s = .next ((s.setCursor (if 0 < s.row then s.row - 1 else s.row) s.col).emit .invCursor) := by
  simp [reverseIndex, h]

/-! ### Erasing and editing (20_memory.md R59; 43_csi.md R180, R181) -/

/-- `EraseCells`: the cells of the range become blank, each is reported once in row-major order, nothing else changes. -/
theorem eraseCells_next (s : State) {r1 c1 r2 c2 : Nat} (h1 : s.inGrid r1 c1 = true) (h2 : s.inGrid r2 c2 = true) :
    ∃ t, eraseCells r1 c1 r2 c2 s = .next t ∧
      t = (s.setGrid t.grid).emitAll
        ((List.range' (s.index r1 c1) (s.index r2 c2 + 1 - s.index r1 c1)).map s.cellEvent) ∧
      t.memWf = true ∧
      ∀ r c, t.cellAt r c =
        if s.inGrid r c = true ∧ (r1 < r ∨ (r1 = r ∧ c1 ≤ c)) ∧ (r < r2 ∨ (r = r2 ∧ c ≤ c2)) then some s.blank
        else s.cellAt r c := by
  refine ⟨(s.fillGrid (fun r c =>
      if s.index r1 c1 ≤ s.index r c ∧ s.index r c < s.index r2 c2 + 1 then s.blank else s.rawCell r c)).emitAll
        ((List.range' (s.index r1 c1) (s.index r2 c2 + 1 - s.index r1 c1)).map s.cellEvent),
    by simp [eraseCells, h1, h2], rfl, Memory.wf_tabulate _ _ _, ?_⟩
  intro r c
  rw [State.cellAt_emitAll, State.cellAt_fillGrid]
  by_cases hin : s.inGrid r c = true
  · have hc := ((s.inGrid_iff r c).mp hin).2
    have hc1 := ((s.inGrid_iff _ _).mp h1).2
    have hc2 := ((s.inGrid_iff _ _).mp h2).2
    have hiff : (s.index r1 c1 ≤ s.index r c ∧ s.index r c < s.index r2 c2 + 1) ↔
        ((r1 < r ∨ (r1 = r ∧ c1 ≤ c)) ∧ (r < r2 ∨ (r = r2 ∧ c ≤ c2))) := by
      rw [Nat.lt_succ_iff, s.index_le_iff hc1 hc, s.index_le_iff hc hc2]
    rw [if_pos hin, cellAt_of_inGrid s hin]
    by_cases hx : (r1 < r ∨ (r1 = r ∧ c1 ≤ c)) ∧ (r < r2 ∨ (r = r2 ∧ c ≤ c2))
    · rw [if_pos (hiff.mpr hx), if_pos ⟨hin, hx⟩]
    · rw [if_neg (fun h => hx (hiff.mp h)), if_neg (fun h => hx h.2)]
  · simp [hin, State.cellAt]

theorem eraseCells_inv {s t : State} {r1 c1 r2 c2 : Nat} (h : eraseCells r1 c1 r2 c2 s = .next t) :
    s.inGrid r1 c1 = true ∧ s.inGrid r2 c2 = true := by
  unfold eraseCells at h
  split at h
  · rename_i hc
    simpa using hc
  · cases h

/-- The row tail rewritten at once: the cells `CC .. COLS-1` of the cursor row, each reported once from left to right. -/
theorem rewriteTail_next (s : State) (f : Nat → Cell) (h : s.inGrid s.row s.cc = true) :
    ∃ t, rewriteTail f s = .next t ∧
      t = (s.setGrid t.grid).emitAll ((List.range' s.cc (s.params.cols - s.cc)).map (fun c => .invCell s.row c)) ∧
      t.memWf = true ∧
      ∀ r c, t.cellAt r c =
        if s.inGrid r c = true ∧ r = s.row ∧ s.cc ≤ c then some (f c) else s.cellAt r c := by
  refine ⟨(s.fillGrid (fun r c => if r = s.row ∧ s.cc ≤ c then f c else s.rawCell r c)).emitAll
      ((List.range' s.cc (s.params.cols - s.cc)).map (fun c => .invCell s.row c)),
    by simp [rewriteTail, h], rfl, Memory.wf_tabulate _ _ _, ?_⟩
  intro r c
  rw [State.cellAt_emitAll, State.cellAt_fillGrid]
  by_cases hin : s.inGrid r c = true
  · by_cases hx : r = s.row ∧ s.cc ≤ c
    · rw [if_pos hin, if_pos hx, if_pos ⟨hin, hx⟩]
    · rw [if_pos hin, if_neg hx, if_neg (fun h => hx h.2), cellAt_of_inGrid s hin]
  · simp [hin, State.cellAt]

theorem rewriteTail_inv {s t : State} {f : Nat → Cell} (h : rewriteTail f s = .next t) :
    s.inGrid s.row s.cc = true := by
  unfold rewriteTail at h
  split at h
  · assumption
  · cases h

/-! ### Put-Char (42_putchar.md R150) -/

/-- A cell stored at the cursor: that cell and no other, and one `InvCell` for it. -/
theorem writeAtCursor_next (s : State) (v : Cell) (h : s.inGrid s.row s.col = true) :
    ∃ t, writeAtCursor v s = .next t ∧ t = (s.setGrid t.grid).emit (.invCell s.row s.col) ∧
      (s.memWf = true → t.memWf = true) ∧
      ∀ r c, t.cellAt r c = if r = s.row ∧ c = s.col then some v else s.cellAt r c := by
  obtain ⟨hr, hc⟩ := (s.inGrid_iff _ _).mp h
  refine ⟨(s.setGrid (Memory.set (resetCell s.params) (s.index s.row s.col) v s.grid)).emit (.invCell s.row s.col),
    by rw [writeAtCursor, memWrite_next s v hr hc, andThen_next], rfl,
    fun hm => s.gridWf_write v hr hc hm, ?_⟩
  intro i j
  rw [State.cellAt_emit, s.cellAt_write v hr hc]

theorem writeAtCursor_inv {s t : State} {v : Cell} (h : writeAtCursor v s = .next t) :
    s.inGrid s.row s.col = true := by
  unfold writeAtCursor at h
  obtain ⟨m, hm, -⟩ := andThen_eq_next.mp h
  unfold memWrite at hm
  split at hm
  · assumption
  · cases hm

end Sys2Proof.Machine
end

