-- ==== Sys2Proof/Laws/Commute.lean ====
section
/-! SUPPORT. No operation below the parser reads the parser state, the streams or the pending calls: each commutes with a
patch of them. -/

namespace Sys2Proof.Machine

/-- A change of `STATE.ESC` and `ACC`, something put before both streams, and new pending calls. -/
structure Patch where
  fe : Bool → Bool
  fa : List Byte → List Byte
  es : List SinkEvent
  bs : List Byte
  cs : List HostCall

/-- The patched state. -/
def Patch.ap (T : Patch) (s : State) : State :=
  { s with word := { s.word with esc := T.fe s.word.esc }, acc := T.fa s.acc, sink := T.es ++ s.sink,
           out := T.bs ++ s.out, calls := T.cs }

/-- A function on the next state of an outcome. -/
def mapNext (f : State → State) : Out → Out
  | .next s => .next (f s)
  | .fault r => .fault r
  | .refused r => .refused r
@[simp] theorem mapNext_next (f s) : mapNext f (.next s) = .next (f s) := rfl
@[simp] theorem mapNext_fault (f s) : mapNext f (.fault s) = .fault s := rfl
theorem mapNext_ite (f) (c : Prop) [Decidable c] (x y : Out) :
    mapNext f (if c then x else y) = if c then mapNext f x else mapNext f y := by split <;> rfl
theorem andThen_commutes {f : State → State} {o o' : Out} {g g' : State → Out} (h1 : o' = mapNext f o) (h2 : ∀ m, g' (f m) = mapNext f (g m)) :
   andThen o' g' = mapNext f (andThen o g) := by
  subst h1; cases o
  · exact h2 _
  · rfl
  · rfl
variable (T : Patch) (s : State)
theorem emitAll_ap (l) : (T.ap s).emitAll l = T.ap (s.emitAll l) := by
  simp [Patch.ap, State.emitAll, List.append_assoc]
theorem emit_ap (e) : (T.ap s).emit e = T.ap (s.emit e) := emitAll_ap ..
theorem outBytes_ap (l) : (T.ap s).outBytes l = T.ap (s.outBytes l) := by
  simp [Patch.ap, State.outBytes, List.append_assoc]
theorem fill_ap (f) : (T.ap s).fillGrid f = T.ap (s.fillGrid f) := rfl
theorem shiftUp_ap (a b n) : shiftUp a b n (T.ap s) = mapNext T.ap (shiftUp a b n s) := by
  unfold shiftUp; rw [mapNext_ite]; rfl
theorem shiftDown_ap (a b n) : shiftDown a b n (T.ap s) = mapNext T.ap (shiftDown a b n s) := by
  unfold shiftDown; rw [mapNext_ite]; rfl
theorem index_ap : index (T.ap s) = mapNext T.ap (index s) := by
  unfold index; rw [mapNext_ite]
  congr 1
  · exact andThen_commutes (shiftUp_ap T s _ _ _) (fun m => by rw [emit_ap]; rfl)
  · rw [mapNext_next, ← emit_ap]; rfl
theorem reverseIndex_ap : reverseIndex (T.ap s) = mapNext T.ap (reverseIndex s) := by
  unfold reverseIndex; rw [mapNext_ite]
  congr 1
  · exact andThen_commutes (shiftDown_ap T s _ _ _) (fun m => by rw [emit_ap]; rfl)
  · rw [mapNext_next, ← emit_ap]; rfl
theorem eraseCells_ap (a b c d) : eraseCells a b c d (T.ap s) = mapNext T.ap (eraseCells a b c d s) := by
  unfold eraseCells; rw [mapNext_ite]
  congr 1
  rw [mapNext_next, ← emitAll_ap]; rfl
theorem rewriteTail_ap (f) : rewriteTail f (T.ap s) = mapNext T.ap (rewriteTail f s) := by
  unfold rewriteTail; rw [mapNext_ite]
  congr 1
  rw [mapNext_next, ← emitAll_ap]; rfl
theorem memWrite_ap (r c v) : memWrite r c v (T.ap s) = mapNext T.ap (memWrite r c v s) := by
  unfold memWrite; rw [mapNext_ite]; rfl
theorem writeAtCursor_ap (v) : writeAtCursor v (T.ap s) = mapNext T.ap (writeAtCursor v s) :=
  andThen_commutes (memWrite_ap T s _ _ _) (fun m => by rw [mapNext_next, ← emit_ap]; rfl)
theorem writeGlyph_ap (v) : writeGlyph v (T.ap s) = mapNext T.ap (writeGlyph v s) := by
  unfold writeGlyph; rw [mapNext_ite, mapNext_ite]
  congr 1
  · congr 1
    exact writeAtCursor_ap T s _
  · exact writeAtCursor_ap T s _
theorem resolveWrap_ap : resolveWrap (T.ap s) = mapNext T.ap (resolveWrap s) := by
  unfold resolveWrap; rw [mapNext_ite, mapNext_ite]
  congr 1
  congr 1
  exact index_ap T (s.setCursor s.row 0)
theorem putChar_ap (b) : putChar b (T.ap s) = mapNext T.ap (putChar b s) :=
  andThen_commutes (andThen_commutes (resolveWrap_ap T s) (fun m => writeGlyph_ap T m b)) (fun _ => rfl)
theorem lineFeed_ap : lineFeed (T.ap s) = mapNext T.ap (lineFeed s) := by
  unfold lineFeed
  have : (if (T.ap s).word.modes.lnm then (T.ap s).setCursor (T.ap s).row 0 else T.ap s) =
      T.ap (if s.word.modes.lnm then s.setCursor s.row 0 else s) := by
    cases h : s.word.modes.lnm
    · rw [show (T.ap s).word.modes.lnm = false from h]; rfl
    · rw [show (T.ap s).word.modes.lnm = true from h]; rfl
  rw [this, index_ap]
theorem walk_ap (f : Nat → State → Out) (h : ∀ p s, f p (T.ap s) = mapNext T.ap (f p s)) (ps) :
    ∀ s, walk f ps (T.ap s) = mapNext T.ap (walk f ps s) := by
  induction ps with
  | nil => intro s; rfl
  | cons p rest ih => intro s; exact andThen_commutes (h p s) ih
theorem sgrParam_ap (p) (s) : sgrParam p (T.ap s) = mapNext T.ap (sgrParam p s) := by
  simp only [sgrParam, mapNext_ite]; rfl
theorem sgr_ap (ps) : sgr ps (T.ap s) = mapNext T.ap (sgr ps s) := by
  simp only [sgr, mapNext_ite]
  rw [walk_ap T _ (sgrParam_ap T)]; rfl
theorem smParam_ap (p) (s) : smParam p (T.ap s) = mapNext T.ap (smParam p s) := by
  unfold smParam; split <;> rfl
theorem rmParam_ap (p) (s) : rmParam p (T.ap s) = mapNext T.ap (rmParam p s) := by
  simp only [rmParam, mapNext_ite]; rfl
theorem colm_ap : colmEffect (T.ap s) = mapNext T.ap (colmEffect s) := by
  unfold colmEffect
  rw [show (((T.ap s).setCursor 0 0).emit .invCursor) = T.ap ((s.setCursor 0 0).emit .invCursor) from emit_ap T (s.setCursor 0 0) _]
  exact eraseCells_ap T ((((s.setCursor 0 0).emit .invCursor).setRegion 0 (s.params.rows - 1)).setShort false) _ _ _ _
theorem om_ap : omEffect (T.ap s) = mapNext T.ap (omEffect s) := by
  unfold omEffect
  rw [mapNext_next, ← emit_ap]; rfl
theorem hook_ap (d : StateWord) : modeHook d (T.ap s) = mapNext T.ap (modeHook d s) := by
  unfold modeHook
  refine andThen_commutes ?_ (fun m => ?_)
  · rw [mapNext_ite]; congr 1; exact colm_ap T s
  · rw [mapNext_ite]; congr 1; exact om_ap T m
theorem hook_irr (d d' : StateWord) (h : d.modes = d'.modes) : modeHook d s = modeHook d' s := by
  unfold modeHook; rw [h]
theorem walkModes_ap (f : Nat → State → Out) (h : ∀ p s, f p (T.ap s) = mapNext T.ap (f p s)) (ps) :
    walkModes f ps (T.ap s) = mapNext T.ap (walkModes f ps s) := by
  unfold walkModes
  refine andThen_commutes (walk_ap T f h ps s) (fun m => ?_)
  rw [hook_ap]
  rw [hook_irr m ((T.ap s).word.xor (T.ap m).word) (StateWord.xor s.word m.word) rfl]
theorem sm_ap (ps) : sm ps (T.ap s) = mapNext T.ap (sm ps s) := walkModes_ap T s _ (smParam_ap T) ps
theorem rm_ap (ps) : rm ps (T.ap s) = mapNext T.ap (rm ps s) := walkModes_ap T s _ (rmParam_ap T) ps
theorem ed_ap (ps) : ed ps (T.ap s) = mapNext T.ap (ed ps s) := by
  simp only [ed, mapNext_ite, ← eraseCells_ap]; rfl
theorem el_ap (ps) : el ps (T.ap s) = mapNext T.ap (el ps s) := by
  simp only [el, mapNext_ite, ← eraseCells_ap]; rfl
theorem ech_ap (ps) : ech ps (T.ap s) = mapNext T.ap (ech ps s) := eraseCells_ap T s _ _ _ _
theorem ich_ap (ps) : ich ps (T.ap s) = mapNext T.ap (ich ps s) := rewriteTail_ap T s _
theorem dch_ap (ps) : dch ps (T.ap s) = mapNext T.ap (dch ps s) := rewriteTail_ap T s _
theorem il_ap (ps) : il ps (T.ap s) = mapNext T.ap (il ps s) := by
  simp only [il, mapNext_ite]
  congr 1
  exact andThen_commutes (shiftDown_ap T s _ _ _) (fun m => by rw [emit_ap]; rfl)
theorem dl_ap (ps) : dl ps (T.ap s) = mapNext T.ap (dl ps s) := by
  simp only [dl, mapNext_ite]
  congr 1
  exact andThen_commutes (shiftUp_ap T s _ _ _) (fun m => by rw [emit_ap]; rfl)
theorem decstbm_ap (ps) : decstbm ps (T.ap s) = mapNext T.ap (decstbm ps s) := by
  have h : ∀ a b, takeRegion a b (T.ap s) = T.ap (takeRegion a b s) := by
    intro a b; unfold takeRegion; split <;> rfl
  simp only [decstbm, mapNext_ite]
  rw [h, h]; rfl
theorem cursorTo_ap (r c : Int) :
    cursorTo r c (T.ap s) = T.ap (cursorTo r c s) :=
      emit_ap T (s.setCursor (clampTo r (s.params.rows - 1)) (clampTo c (s.params.cols - 1))) _
theorem cursorPos_ap (ps) : cursorPosition ps (T.ap s) = T.ap (cursorPosition ps s) := by
  unfold cursorPosition; split <;> exact cursorTo_ap ..
theorem scp_ap : scp (T.ap s) = mapNext T.ap (scp s) := by
  unfold scp; rw [mapNext_next]; congr 1
  cases h : s.params.sharedSaveSlot
  · rw [show (T.ap s).params.sharedSaveSlot = false from h]; rfl
  · rw [show (T.ap s).params.sharedSaveSlot = true from h]; rfl
theorem rcp_ap : rcp (T.ap s) = mapNext T.ap (rcp s) := by
  unfold rcp; rw [mapNext_next, ← emit_ap]; congr 2
  cases h : s.params.sharedSaveSlot
  · rw [show (T.ap s).params.sharedSaveSlot = false from h]; rfl
  · rw [show (T.ap s).params.sharedSaveSlot = true from h]; rfl
theorem next_commutes {x : State} (h : x = T.ap s) :
    (Host.Outcome.next x : Out) = mapNext T.ap (.next s) := by rw [h]; rfl
theorem csiVerb_ap (ps v) : csiVerb ps v (T.ap s) = mapNext T.ap (csiVerb ps v s) := by
  unfold csiVerb
  split
  · exact sgr_ap ..
  · exact sm_ap ..
  · exact rm_ap ..
  · exact ed_ap ..
  · exact next_commutes T _ (cursorPos_ap ..)
  · exact next_commutes T _ (cursorPos_ap ..)
  · exact next_commutes T _ (cursorTo_ap T s _ _)
  · exact next_commutes T _ (cursorTo_ap T s _ _)
  · exact next_commutes T _ (cursorTo_ap T s _ _)
  · exact next_commutes T _ (cursorTo_ap T s _ _)
  · exact next_commutes T _ (cursorTo_ap T s _ _)
  · exact next_commutes T _ (cursorTo_ap T s _ _)
  · exact next_commutes T _ (cursorTo_ap T s _ _)
  · exact next_commutes T _ (cursorTo_ap T s _ _)
  · exact next_commutes T _ (cursorTo_ap T s _ _)
  · exact next_commutes T _ (cursorTo_ap T s _ _)
  · exact next_commutes T _ (cursorTo_ap T s _ _)
  · exact el_ap ..
  · exact ich_ap ..
  · exact dch_ap ..
  · exact il_ap ..
  · exact dl_ap ..
  · exact ech_ap ..
  · exact decstbm_ap ..
  · exact scp_ap ..
  · exact rcp_ap ..
  · rfl
theorem csiDispatch_ap (l) : csiDispatch l (T.ap s) = mapNext T.ap (csiDispatch l s) := by
  unfold csiDispatch; split
  · rfl
  · exact csiVerb_ap ..
theorem restore_ap :
    restoreCursor (T.ap s) = T.ap (restoreCursor s) :=
      emit_ap T (((s.setCursor s.saveRow s.saveCol).setCurAttr s.saveAttr).setAltcs s.word.savedAltcs) _
theorem align_ap :
    alignmentFill (T.ap s) = T.ap (alignmentFill s) :=
  emit_ap T (s.fillGrid (fun _ _ =>
    { ch := s.params.decalnChar, attr := { s.curAttr with altcs := false } })) _


end Sys2Proof.Machine
end

