-- ==== Sys2Proof/Laws/Events.lean ====
section
/-! SUPPORT. The row-major addresses of the grid and the events of a range of them, as a range of row-major indices. -/

namespace Sys2Proof.Machine

/-- The addresses are the row-major indices, divided. -/
theorem addresses_eq (s : State) :
    s.addresses = (List.range s.size).map (fun i => (i / s.params.cols, i % s.params.cols)) := by
  rw [State.addresses, State.size]
  generalize s.params.rows = R
  generalize s.params.cols = C
  rcases Nat.eq_zero_or_pos C with rfl | hC
  · simp
  induction R with
  | zero => simp
  | succ R ih =>
    rw [List.range_succ, List.flatMap_append, ih, Nat.succ_mul, List.range_add, List.map_append]
    congr 1
    simp only [List.flatMap_singleton, List.map_map]
    apply List.map_congr_left
    intro c hc
    have hc : c < C := by simpa using hc
    simp only [Function.comp]
    rw [Nat.mul_comm, Nat.mul_add_div hC, Nat.mul_add_mod, Nat.mod_eq_of_lt hc, Nat.div_eq_of_lt hc, Nat.add_zero]

/-- The indices between two bounds, as a filter and as a range. -/
theorem filter_range_eq (n lo hi : Nat) (h : hi ≤ n) :
    (List.range n).filter (fun i => decide (lo ≤ i ∧ i < hi)) = List.range' lo (hi - lo) := by
  apply List.Perm.eq_of_pairwise (le := (· < ·))
  · intro a b _ _ h1 h2; omega
  · exact List.Pairwise.filter _ List.pairwise_lt_range
  · exact List.pairwise_lt_range'
  · rw [List.perm_ext_iff_of_nodup (List.Nodup.filter _ List.nodup_range) (List.nodup_range' (step := 1))]
    intro a
    simp [List.mem_filter, List.mem_range']
    constructor
    · rintro ⟨h1, h2, h3⟩; exact ⟨a - lo, by omega, by omega⟩
    · rintro ⟨k, hk, rfl⟩; omega

/-- The events of the cells whose row-major index lies between two bounds. -/
theorem cellEvents_eq (s : State) (P : Nat → Nat → Bool) (lo hi : Nat) (h : hi ≤ s.size)
    (hP : ∀ r c, r < s.params.rows → c < s.params.cols → (P r c = true ↔ lo ≤ s.index r c ∧ s.index r c < hi)) :
    s.cellEvents P = (List.range' lo (hi - lo)).map s.cellEvent := by
  rw [State.cellEvents, addresses_eq, List.filter_map, List.map_map, ← filter_range_eq s.size lo hi h]
  have : (List.range s.size).filter ((fun a : Nat × Nat => P a.1 a.2) ∘ fun i => (i / s.params.cols, i % s.params.cols)) =
      (List.range s.size).filter (fun i => decide (lo ≤ i ∧ i < hi)) := by
    apply List.filter_congr
    intro i hi'
    have hlt : i < s.size := by simpa using hi'
    have hc : 0 < s.params.cols := by
      by_contra hh
      have : s.params.cols = 0 := by omega
      simp [State.size, this] at hlt
    have hr := s.row_lt_of_index hlt
    have hm : i % s.params.cols < s.params.cols := Nat.mod_lt _ hc
    have := hP _ _ hr hm
    rw [State.index_of_div_mod] at this
    simp only [Function.comp]
    rw [Bool.eq_iff_iff, this, decide_eq_true_iff]
  rw [this]
  rfl

end Sys2Proof.Machine
end

