-- ==== Sys2Proof/Laws/Frame.lean ====
section
/-! SUPPORT. For each shared operation that answers a next state, what it leaves unchanged, in every state; that it only
appends to the sink; and what SGR, SM and RM may change. -/

namespace Sys2Proof.Machine

theorem next_inj {a b : State} (h : (Host.Outcome.next a : Out) = .next b) : a = b := Host.Outcome.next.inj h

/-! ### Frames -/

theorem shiftUp_frame {top bot n s t} (h : shiftUp top bot n s = .next t) : t = { s with grid := t.grid } := by
  unfold shiftUp at h; split at h
  · cases h; rfl
  · cases h

theorem shiftDown_frame {top bot n s t} (h : shiftDown top bot n s = .next t) : t = { s with grid := t.grid } := by
  unfold shiftDown at h; split at h
  · cases h; rfl
  · cases h

theorem index_frame {s t} (h : index s = .next t) :
    t = { s with grid := t.grid, row := t.row, sink := t.sink } := by
  unfold index at h; split at h
  · obtain ⟨m, h1, h2⟩ := andThen_eq_next.mp h
    have := shiftUp_frame h1
    cases h2
    conv_lhs => rw [this]
    rw [this]; rfl
  · cases h; rfl

theorem reverseIndex_frame {s t} (h : reverseIndex s = .next t) :
    t = { s with grid := t.grid, row := t.row, sink := t.sink } := by
  unfold reverseIndex at h; split at h
  · obtain ⟨m, h1, h2⟩ := andThen_eq_next.mp h
    have := shiftDown_frame h1
    cases h2
    conv_lhs => rw [this]
    rw [this]; rfl
  · cases h; rfl

theorem eraseCells_frame {a b c d s t} (h : eraseCells a b c d s = .next t) :
    t = { s with grid := t.grid, sink := t.sink } := by
  unfold eraseCells at h; split at h
  · cases h; rfl
  · cases h

theorem rewriteTail_frame {f s t} (h : rewriteTail f s = .next t) :
    t = { s with grid := t.grid, sink := t.sink } := by
  unfold rewriteTail at h; split at h
  · cases h; rfl
  · cases h

theorem memWrite_frame {r c v s t} (h : memWrite r c v s = .next t) : t = { s with grid := t.grid } := by
  unfold memWrite at h; split at h
  · cases h; rfl
  · cases h

theorem writeAtCursor_frame {v s t} (h : writeAtCursor v s = .next t) :
    t = { s with grid := t.grid, sink := t.sink } := by
  unfold writeAtCursor at h
  obtain ⟨m, h1, h2⟩ := andThen_eq_next.mp h
  have := memWrite_frame h1
  cases h2
  conv_lhs => rw [this]
  rw [this]; rfl

theorem writeGlyph_frame {v s t} (h : writeGlyph v s = .next t) :
    t = { s with grid := t.grid, sink := t.sink } := by
  unfold writeGlyph at h
  split at h
  · split at h
    · exact writeAtCursor_frame h
    · cases h; rfl
  · exact writeAtCursor_frame h

theorem resolveWrap_frame {s t} (h : resolveWrap s = .next t) :
    t = { s with grid := t.grid, row := t.row, col := t.col, sink := t.sink } := by
  unfold resolveWrap at h
  split at h
  · split at h
    · have := index_frame h
      conv_lhs => rw [this]
      rw [this]; rfl
    · cases h; rfl
  · cases h; rfl

theorem putChar_frame {b s t} (h : putChar b s = .next t) :
    t = { s with grid := t.grid, row := t.row, col := t.col, sink := t.sink } := by
  unfold putChar at h
  obtain ⟨m, h1, h2⟩ := andThen_eq_next.mp h
  obtain ⟨m', h3, h4⟩ := andThen_eq_next.mp h1
  have e1 := resolveWrap_frame h3
  have e2 := writeGlyph_frame h4
  cases h2
  conv_lhs => rw [e2, e1]
  rw [e2, e1]; rfl

theorem lineFeed_frame {s t} (h : lineFeed s = .next t) :
    t = { s with grid := t.grid, row := t.row, col := t.col, sink := t.sink } := by
  unfold lineFeed at h
  have := index_frame h
  split at this
  · conv_lhs => rw [this]
    rw [this]; rfl
  · conv_lhs => rw [this]
    rw [this]

theorem colmEffect_frame {s t} (h : colmEffect s = .next t) :
    t = { s with grid := t.grid, row := 0, col := 0, sink := t.sink, scrollMin := 0, scrollMax :=
      s.params.rows - 1, word := { s.word with short := false } } := by
  have := eraseCells_frame h
  conv_lhs => rw [this]
  rfl

theorem accumulate_frame (b : Byte) (s : State) : accumulate b s =
    { s with acc := (accumulate b s).acc, word := { s.word with esc := (accumulate b s).word.esc } } := by
  unfold accumulate boundCheck; split <;> rfl

theorem ed_frame {ps s t} (h : ed ps s = .next t) : t = { s with grid := t.grid, sink := t.sink } := by
  unfold ed at h; split at h
  · exact eraseCells_frame h
  · split at h <;> exact eraseCells_frame h

theorem el_frame {ps s t} (h : el ps s = .next t) : t = { s with grid := t.grid, sink := t.sink } := by
  unfold el at h; split at h
  · exact eraseCells_frame h
  · split at h <;> exact eraseCells_frame h

theorem il_frame {ps s t} (h : il ps s = .next t) : t = { s with grid := t.grid, sink := t.sink } := by
  unfold il at h; split at h
  · obtain ⟨m, h1, h2⟩ := andThen_eq_next.mp h
    have := shiftDown_frame h1
    cases h2
    conv_lhs => rw [this]
    rw [this]; rfl
  · cases h; rfl

theorem dl_frame {ps s t} (h : dl ps s = .next t) : t = { s with grid := t.grid, sink := t.sink } := by
  unfold dl at h; split at h
  · obtain ⟨m, h1, h2⟩ := andThen_eq_next.mp h
    have := shiftUp_frame h1
    cases h2
    conv_lhs => rw [this]
    rw [this]; rfl
  · cases h; rfl

theorem decstbm_frame {ps s t} (h : decstbm ps s = .next t) :
    t = { s with scrollMin := t.scrollMin, scrollMax := t.scrollMax, word := { s.word with short :=
      t.word.short } } := by
  unfold decstbm takeRegion at h
  split at h
  · split at h <;> (cases h; rfl)
  · split at h <;> (cases h; rfl)

/-! ### The sink only grows -/

theorem index_sink {s t} (h : index s = .next t) : s.sink <+: t.sink := by
  unfold index at h; split at h
  · obtain ⟨m, h1, h2⟩ := andThen_eq_next.mp h
    have := shiftUp_frame h1
    cases h2
    show s.sink <+: m.sink ++ _
    rw [this]; exact List.prefix_append _ _
  · cases h; exact List.prefix_append _ _

theorem reverseIndex_sink {s t} (h : reverseIndex s = .next t) : s.sink <+: t.sink := by
  unfold reverseIndex at h; split at h
  · obtain ⟨m, h1, h2⟩ := andThen_eq_next.mp h
    have := shiftDown_frame h1
    cases h2
    show s.sink <+: m.sink ++ _
    rw [this]; exact List.prefix_append _ _
  · cases h; exact List.prefix_append _ _

theorem eraseCells_sink {a b c d s t} (h : eraseCells a b c d s = .next t) : s.sink <+: t.sink := by
  unfold eraseCells at h; split at h
  · cases h; exact List.prefix_append _ _
  · cases h

theorem rewriteTail_sink {f s t} (h : rewriteTail f s = .next t) : s.sink <+: t.sink := by
  unfold rewriteTail at h; split at h
  · cases h; exact List.prefix_append _ _
  · cases h

theorem writeAtCursor_sink {v s t} (h : writeAtCursor v s = .next t) : s.sink <+: t.sink := by
  unfold writeAtCursor at h
  obtain ⟨m, h1, h2⟩ := andThen_eq_next.mp h
  have := memWrite_frame h1
  cases h2
  show s.sink <+: m.sink ++ _
  rw [this]; exact List.prefix_append _ _

theorem writeGlyph_sink {v s t} (h : writeGlyph v s = .next t) : s.sink <+: t.sink := by
  unfold writeGlyph at h
  split at h
  · split at h
    · exact writeAtCursor_sink h
    · cases h; exact List.prefix_refl _
  · exact writeAtCursor_sink h

theorem resolveWrap_sink {s t} (h : resolveWrap s = .next t) : s.sink <+: t.sink := by
  unfold resolveWrap at h
  split at h
  · split at h
    · have h5 := index_sink h; exact h5
    · cases h; exact List.prefix_refl _
  · cases h; exact List.prefix_refl _

theorem putChar_sink {b s t} (h : putChar b s = .next t) : s.sink <+: t.sink := by
  unfold putChar at h
  obtain ⟨m, h1, h2⟩ := andThen_eq_next.mp h
  obtain ⟨m', h3, h4⟩ := andThen_eq_next.mp h1
  cases h2
  have h6 := (resolveWrap_sink h3).trans (writeGlyph_sink h4); exact h6

theorem lineFeed_sink {s t} (h : lineFeed s = .next t) : s.sink <+: t.sink := by
  unfold lineFeed at h
  have := index_sink h
  split at this <;> exact this

/-! ### The walks of SGR, SM and RM -/

/-- A parameter of SGR changes `CUR_ATTR` and `STATE.ALTCS` only (44_sgr.md R201 to R215). -/
def SgrFrame (s t : State) : Prop :=
  t = { s with curAttr := t.curAttr, word := { s.word with altcs := t.word.altcs } }

theorem sgrFrame_ite {c : Prop} [Decidable c] {x y : Out} {s : State} (h1 : ∃ t, x = .next t ∧ SgrFrame s t)
    (h2 : ∃ t, y = .next t ∧ SgrFrame s t) : ∃ t, (if c then x else y) = .next t ∧ SgrFrame s t := by
  split
  · exact h1
  · exact h2

theorem sgrParam_frame (p : Nat) (s : State) : ∃ t, sgrParam p s = .next t ∧ SgrFrame s t := by
  unfold sgrParam
  iterate 14 refine sgrFrame_ite ⟨_, rfl, rfl⟩ ?_
  exact ⟨_, rfl, rfl⟩

theorem sgrFrame_trans {s t u : State} (h1 : SgrFrame s t) (h2 : SgrFrame t u) : SgrFrame s u := by
  unfold SgrFrame at *
  rw [h2]; rw [h1]

theorem walk_sgr_frame (ps : List Nat) : ∀ s, ∃ t, walk sgrParam ps s = .next t ∧ SgrFrame s t := by
  induction ps with
  | nil => intro s; exact ⟨s, rfl, rfl⟩
  | cons p rest ih =>
    intro s
    obtain ⟨m, h1, h2⟩ := sgrParam_frame p s
    obtain ⟨t, h3, h4⟩ := ih m
    exact ⟨t, by rw [walk_cons, h1]; exact h3, sgrFrame_trans h2 h4⟩

theorem sgr_frame (ps : List Nat) (s : State) : ∃ t, sgr ps s = .next t ∧ SgrFrame s t := by
  rw [sgr]
  split
  · exact ⟨_, rfl, rfl⟩
  · exact walk_sgr_frame ps s

/-- The parameters `ps` of SM set the mode bits they name, and 25 clears CURINV; nothing else changes (45_modes.md R221 to
R223). -/
def SmFrame (ps : List Nat) (s t : State) : Prop :=
  t = { s with word := { s.word with modes := t.word.modes, curinv := t.word.curinv } } ∧
  (∀ m, modeOf t.word.modes m = (modeOf s.word.modes m || ps.contains (modeNumber m))) ∧
  t.word.curinv = (s.word.curinv && !ps.contains 25)

theorem smParam_frame (p : Nat) (s : State) : ∃ t, smParam p s = .next t ∧ SmFrame [p] s t := by
  simp only [smParam]
  split
  case h_12 h1 h2 h3 h4 h5 h6 h7 h8 h9 h10 h11 =>
    refine ⟨_, rfl, rfl, ?_, ?_⟩
    · intro m
      have : modeNumber m ≠ p := by
        intro hh; cases m <;> simp only [modeNumber] at hh <;> simp_all
      simp [this]
    · have : ¬ 25 = p := fun hh => h11 hh.symm
      simp [this]
  all_goals
    refine ⟨_, rfl, rfl, ?_, ?_⟩
    · intro m; cases m <;> simp [modeNumber, modeOf, State.setMode, withMode, State.setCurinv]
    · simp [State.setMode, State.setModes, State.setCurinv]

theorem walk_sm_frame (ps : List Nat) : ∀ s, ∃ t, walk smParam ps s = .next t ∧ SmFrame ps s t := by
  induction ps with
  | nil => intro s; exact ⟨s, rfl, rfl, by simp, by simp⟩
  | cons p rest ih =>
    intro s
    obtain ⟨m, h1, f1, g1, k1⟩ := smParam_frame p s
    obtain ⟨t, h3, f2, g2, k2⟩ := ih m
    refine ⟨t, by rw [walk_cons, h1]; exact h3, ?_, ?_, ?_⟩
    · conv_lhs => rw [f2, f1]
    · intro x
      rw [g2, g1]
      simp [Bool.or_assoc]
    · rw [k2, k1]
      simp [Bool.and_assoc]

/-- The parameters of RM clear CURINV if 25 is among them; nothing else changes (45_modes.md R227). -/
theorem walk_rm_eq (ps : List Nat) : ∀ s, walk rmParam ps s =
    .next { s with word := { s.word with curinv := s.word.curinv && !ps.contains 25 } } := by
  induction ps with
  | nil => intro s; simp
  | cons p rest ih =>
    intro s
    rw [walk_cons, rmParam]
    split
    · rename_i h; subst h
      rw [execRm25, andThen_next, ih]
      simp [State.setCurinv, State.setWord]
    · rename_i h
      rw [execRmIgnored, andThen_next, ih]
      have : (25 == p) = false := beq_eq_false_iff_ne.mpr (Ne.symm h)
      rw [List.contains_cons, this, Bool.false_or]

theorem modeHook_none {d : StateWord} {s : State} (h1 : d.modes.colm = false) (h2 : d.modes.om = false) :
    modeHook d s = .next s := by
  simp [modeHook, h1, h2]

end Sys2Proof.Machine
end

