-- ==== Sys2Proof/Laws/Keeps.lean ====
section
/-! SUPPORT. Every operation, run in a state that keeps the ranges of 10_state.md R38, answers a next state that keeps
them. -/

namespace Sys2Proof.Machine

/-- The part of the invariant that does not speak of the parser. -/
structure RangeInv (s : State) : Prop where
  paramsOk : s.params.ok = true
  rowLt : s.row < s.params.rows
  colLe : s.col ≤ s.params.cols
  regionLe : s.scrollMin ≤ s.scrollMax
  scrollMaxLt : s.scrollMax < s.params.rows
  saveRowLt : s.saveRow < s.params.rows
  saveColLe : s.saveCol ≤ s.params.cols
  csrRowLt : s.csrRow < s.params.rows
  csrColLe : s.csrCol ≤ s.params.cols
  shortIff : s.word.short = !s.fullRegion
  curAltcs : s.curAttr.altcs = false
  saveAltcs : s.saveAttr.altcs = false
  curinvClear : s.word.curinv = false
  gridWf : s.memWf = true

theorem RangeInv.of_inv {s} (h : StateInv s) : RangeInv s :=
  ⟨h.paramsOk, h.rowLt, h.colLe, h.regionLe, h.scrollMaxLt, h.saveRowLt, h.saveColLe, h.csrRowLt, h.csrColLe,
    h.shortIff, h.curAltcs, h.saveAltcs, h.curinvClear, h.gridWf⟩

theorem RangeInv.dims {s} (h : RangeInv s) : 1 ≤ s.params.rows ∧ 1 ≤ s.params.cols ∧ 2 ≤ s.params.accCap := by
  obtain ⟨h1, h2, h3, -⟩ := Params.ok_iff.mp h.paramsOk
  exact ⟨h1, h2, h3⟩

/-- The operation completes and keeps the ranges. -/
def KeepsRanges (f : State → Out) : Prop := ∀ s, RangeInv s → ∃ t, f s = .next t ∧ RangeInv t

theorem keeps_then {f g : State → Out} (hf : KeepsRanges f) (hg : KeepsRanges g) :
    KeepsRanges (fun s => andThen (f s) g) := by
  intro s hs
  obtain ⟨m, h1, h2⟩ := hf s hs
  obtain ⟨t, h3, h4⟩ := hg m h2
  exact ⟨t, by show andThen (f s) g = _; rw [h1]; exact h3, h4⟩

theorem keeps_pure {f : State → State} (h : ∀ s, RangeInv s → RangeInv (f s)) :
    KeepsRanges (fun s => .next (f s)) := fun s hs => ⟨_, rfl, h s hs⟩

/-! ### Named updates -/

theorem rangeInv_cancel {s} (h : RangeInv s) :
    RangeInv (cancel s) := ⟨h.1, h.2, h.3, h.4, h.5, h.6, h.7, h.8, h.9, h.10, h.11, h.12, h.13, h.14⟩

theorem rangeInv_parser {s e l} (h : RangeInv s) :
    RangeInv (s.setParser e l) := ⟨h.1, h.2, h.3, h.4, h.5, h.6, h.7, h.8, h.9, h.10, h.11, h.12, h.13, h.14⟩

theorem rangeInv_emitAll {s l} (h : RangeInv s) :
    RangeInv (s.emitAll l) := ⟨h.1, h.2, h.3, h.4, h.5, h.6, h.7, h.8, h.9, h.10, h.11, h.12, h.13, h.14⟩

theorem rangeInv_emit {s e} (h : RangeInv s) : RangeInv (s.emit e) := rangeInv_emitAll h

theorem rangeInv_out {s e} (h : RangeInv s) :
    RangeInv (s.outBytes e) := ⟨h.1, h.2, h.3, h.4, h.5, h.6, h.7, h.8, h.9, h.10, h.11, h.12, h.13, h.14⟩

theorem rangeInv_calls {s e} (h : RangeInv s) :
    RangeInv (s.setCalls e) := ⟨h.1, h.2, h.3, h.4, h.5, h.6, h.7, h.8, h.9, h.10, h.11, h.12, h.13, h.14⟩

theorem rangeInv_profile {s e} (h : RangeInv s) :
    RangeInv (s.setProfile e) := ⟨h.1, h.2, h.3, h.4, h.5, h.6, h.7, h.8, h.9, h.10, h.11, h.12, h.13, h.14⟩

theorem rangeInv_altcs {s e} (h : RangeInv s) :
    RangeInv (s.setAltcs e) := ⟨h.1, h.2, h.3, h.4, h.5, h.6, h.7, h.8, h.9, h.10, h.11, h.12, h.13, h.14⟩

theorem rangeInv_modes {s e} (h : RangeInv s) :
    RangeInv (s.setModes e) := ⟨h.1, h.2, h.3, h.4, h.5, h.6, h.7, h.8, h.9, h.10, h.11, h.12, h.13, h.14⟩

theorem rangeInv_curinv {s} (h : RangeInv s) :
    RangeInv (s.setCurinv false) := ⟨h.1, h.2, h.3, h.4, h.5, h.6, h.7, h.8, h.9, h.10, h.11, h.12, rfl, h.14⟩

theorem rangeInv_curAttr {s a} (h : RangeInv s) (ha : a.altcs = false) :
    RangeInv (s.setCurAttr a) := ⟨h.1, h.2, h.3, h.4, h.5, h.6, h.7, h.8, h.9, h.10, ha, h.12, h.13, h.14⟩

theorem rangeInv_cursor {s r c} (h : RangeInv s) (hr : r < s.params.rows) (hc : c ≤ s.params.cols) :
    RangeInv (s.setCursor r c) := ⟨h.1, hr, hc, h.4, h.5, h.6, h.7, h.8, h.9, h.10, h.11, h.12, h.13, h.14⟩

theorem rangeInv_grid {s g} (h : RangeInv s) (hg : Memory.wf (resetCell s.params) s.size g = true) :
    RangeInv (s.setGrid g) := ⟨h.1, h.2, h.3, h.4, h.5, h.6, h.7, h.8, h.9, h.10, h.11, h.12, h.13, hg⟩

theorem rangeInv_fill {s f} (h : RangeInv s) : RangeInv (s.fillGrid f) := rangeInv_grid h (Memory.wf_tabulate _ _ _)

theorem rangeInv_save {s r c a b} (h : RangeInv s) (hr : r < s.params.rows) (hc : c ≤ s.params.cols) (ha : a.altcs = false) :
    RangeInv (s.setSave r c a b) :=
  ⟨h.1, h.2, h.3, h.4, h.5, hr, hc, h.8, h.9, h.10, h.11, ha, h.13, h.14⟩

theorem rangeInv_savePos {s r c} (h : RangeInv s) (hr : r < s.params.rows) (hc : c ≤ s.params.cols) :
    RangeInv (s.setSavePos r c) := ⟨h.1, h.2, h.3, h.4, h.5, hr, hc, h.8, h.9, h.10, h.11, h.12, h.13, h.14⟩

theorem rangeInv_csr {s r c} (h : RangeInv s) (hr : r < s.params.rows) (hc : c ≤ s.params.cols) :
    RangeInv (s.setCsr r c) := ⟨h.1, h.2, h.3, h.4, h.5, h.6, h.7, hr, hc, h.10, h.11, h.12, h.13, h.14⟩

theorem rangeInv_region {s a b} (h : RangeInv s) (hab : a ≤ b) (hb : b < s.params.rows) (short : Bool)
    (hs : short = !(a == 0 && b == s.params.rows - 1)) : RangeInv ((s.setRegion a b).setShort short) :=
  ⟨h.1, h.2, h.3, hab, hb, h.6, h.7, h.8, h.9, hs, h.11, h.12, h.13, h.14⟩

theorem rangeInv_cursorTo {s r c} (h : RangeInv s) : RangeInv (cursorTo r c s) := by
  have hd := h.dims
  have h1 := clampTo_le r (s.params.rows - 1)
  have h2 := clampTo_le c (s.params.cols - 1)
  exact rangeInv_emit (rangeInv_cursor h (by omega) (by omega))

theorem rangeInv_cup {s ps} (h : RangeInv s) : RangeInv (cursorPosition ps s) := by
  unfold cursorPosition; split <;> exact rangeInv_cursorTo h

theorem rangeInv_acc {b s} (h : RangeInv s) : RangeInv (accumulate b s) := by
  unfold accumulate boundCheck
  split
  · exact rangeInv_cancel (rangeInv_parser h)
  · exact rangeInv_parser h

/-! ### Operations -/

theorem keeps_shiftUp {s a b n} (h : RangeInv s) (h1 : a ≤ b) (h2 : b < s.params.rows) :
    ∃ t, shiftUp a b n s = .next t ∧ RangeInv t := by
  refine ⟨_, by rw [shiftUp, if_pos ⟨h1, h2⟩], rangeInv_fill h⟩

theorem keeps_shiftDown {s a b n} (h : RangeInv s) (h1 : a ≤ b) (h2 : b < s.params.rows) :
    ∃ t, shiftDown a b n s = .next t ∧ RangeInv t := by
  refine ⟨_, by rw [shiftDown, if_pos ⟨h1, h2⟩], rangeInv_fill h⟩

theorem keeps_index : KeepsRanges index := by
  intro s h
  unfold index
  split
  · obtain ⟨t, h1, h2⟩ := keeps_shiftUp (n := 1) h h.regionLe h.scrollMaxLt
    exact ⟨_, by rw [h1]; rfl, rangeInv_emit h2⟩
  · refine ⟨_, rfl, rangeInv_emit (rangeInv_cursor h ?_ h.colLe)⟩
    have := h.rowLt
    split <;> omega

theorem keeps_reverseIndex : KeepsRanges reverseIndex := by
  intro s h
  unfold reverseIndex
  split
  · obtain ⟨t, h1, h2⟩ := keeps_shiftDown (n := 1) h h.regionLe h.scrollMaxLt
    exact ⟨_, by rw [h1]; rfl, rangeInv_emit h2⟩
  · refine ⟨_, rfl, rangeInv_emit (rangeInv_cursor h ?_ h.colLe)⟩
    have := h.rowLt
    split <;> omega

theorem keeps_erase {s a b c d} (h : RangeInv s) (h1 : s.inGrid a b = true) (h2 : s.inGrid c d = true) :
    ∃ t, eraseCells a b c d s = .next t ∧ RangeInv t := by
  refine ⟨_, by rw [eraseCells, if_pos (by rw [h1, h2]; rfl)], rangeInv_emitAll (rangeInv_fill h)⟩

theorem rangeInv_cc {s} (h : RangeInv s) :
    s.inGrid s.row s.cc = true := (s.inGrid_iff _ _).mpr ⟨h.rowLt, s.cc_lt (by have := h.dims; omega)⟩

theorem keeps_tail {s f} (h : RangeInv s) : ∃ t, rewriteTail f s = .next t ∧ RangeInv t := by
  refine ⟨_, by rw [rewriteTail, if_pos (rangeInv_cc h)], rangeInv_emitAll (rangeInv_fill h)⟩

theorem keeps_write {v s} (h : RangeInv s) (hc : s.col < s.params.cols) :
    ∃ t, writeAtCursor v s = .next t ∧ RangeInv t := by
  refine ⟨_, by rw [writeAtCursor, memWrite, if_pos ((s.inGrid_iff _ _).mpr ⟨h.rowLt, hc⟩)]; rfl, rangeInv_emit (rangeInv_grid h ?_)⟩
  exact s.gridWf_write v h.rowLt hc h.gridWf

theorem keeps_putChar (b) : KeepsRanges (putChar b) := by
  intro s h
  have hd := h.dims
  have h1 : ∃ m, resolveWrap s = .next m ∧ RangeInv m ∧ m.col < m.params.cols := by
    unfold resolveWrap
    split
    · split
      · obtain ⟨t, a, b⟩ := keeps_index _ (rangeInv_cursor (r := s.row) (c := 0) h h.rowLt (by omega))
        refine ⟨t, a, b, ?_⟩
        have f := index_frame a
        have e1 : t.col = 0 := by have h5 := congrArg State.col f; exact h5
        have := b.dims
        omega
      · refine ⟨_, rfl, rangeInv_cursor h h.rowLt (by omega), ?_⟩
        show s.params.cols - 1 < s.params.cols
        omega
    · refine ⟨_, rfl, h, ?_⟩
      have := h.colLe
      omega
  obtain ⟨m, e1, hm, hc⟩ := h1
  have h2 : ∃ u, writeGlyph b m = .next u ∧ RangeInv u := by
    unfold writeGlyph
    split
    · split
      · exact keeps_write hm hc
      · exact ⟨_, rfl, hm⟩
    · exact keeps_write hm hc
  obtain ⟨u, e2, hu⟩ := h2
  have f := writeGlyph_frame e2
  have e3 : u.col = m.col := by have h5 := congrArg State.col f; exact h5
  have e4 : u.params = m.params := by have h5 := congrArg State.params f; exact h5
  refine ⟨advance b u, by unfold putChar; rw [e1, andThen_next, e2]; rfl, rangeInv_cursor hu hu.rowLt ?_⟩
  rw [e3, e4]
  split <;> omega

theorem keeps_lineFeed : KeepsRanges lineFeed := by
  intro s h
  unfold lineFeed
  apply keeps_index
  split
  · exact rangeInv_cursor h h.rowLt (by omega)
  · exact h

theorem keeps_ite {c : Prop} [Decidable c] {x y : Out} (h1 : ∃ t, x = .next t ∧ RangeInv t) (h2 : ∃ t, y = .next t ∧ RangeInv t) :
   ∃ t, (if c then x else y) = .next t ∧ RangeInv t := by split; exacts [h1, h2]

theorem keeps_sgrParam (p) : KeepsRanges (sgrParam p) := by
  intro s h
  have hc := h.curAltcs
  unfold sgrParam
  refine keeps_ite ⟨_, rfl, rangeInv_curAttr h rfl⟩ ?_
  iterate 4 refine keeps_ite ⟨_, rfl, rangeInv_curAttr h hc⟩ ?_
  iterate 2 refine keeps_ite ⟨_, rfl, rangeInv_altcs h⟩ ?_
  iterate 7 refine keeps_ite ⟨_, rfl, rangeInv_curAttr h hc⟩ ?_
  exact ⟨_, rfl, h⟩

theorem keeps_walk {f : Nat → State → Out} (hf : ∀ p, KeepsRanges (f p)) (ps) : KeepsRanges (walk f ps) := by
  induction ps with
  | nil => exact fun s h => ⟨s, rfl, h⟩
  | cons p r ih => exact keeps_then (hf p) ih

theorem keeps_sgr (ps) : KeepsRanges (sgr ps) := by
  intro s h
  unfold sgr
  split
  · exact ⟨_, rfl, rangeInv_curAttr h rfl⟩
  · exact keeps_walk keeps_sgrParam ps s h

theorem keeps_smParam (p) : KeepsRanges (smParam p) := by
  intro s h
  unfold smParam
  split
  case h_11 => exact ⟨_, rfl, rangeInv_curinv h⟩
  case h_12 => exact ⟨_, rfl, h⟩
  all_goals exact ⟨_, rfl, rangeInv_modes h⟩

theorem keeps_rmParam (p) : KeepsRanges (rmParam p) := by
  intro s h
  unfold rmParam
  split
  · exact ⟨_, rfl, rangeInv_curinv h⟩
  · exact ⟨_, rfl, h⟩

theorem keeps_colm : KeepsRanges colmEffect := by
  intro s h
  have hd := h.dims
  unfold colmEffect
  refine keeps_erase (rangeInv_region (rangeInv_emit (rangeInv_cursor h (by omega) (by omega))) (by omega) ?_ false ?_) ?_ ?_
  · show s.params.rows - 1 < s.params.rows; omega
  · show false = !(0 == 0 && s.params.rows - 1 == s.params.rows - 1); simp
  · exact (State.inGrid_iff _ _ _).mpr ⟨by show 0 < s.params.rows; omega, by show 0 < s.params.cols; omega⟩
  · exact (State.inGrid_iff _ _ _).mpr ⟨by show s.params.rows - 1 < s.params.rows; omega, by show s.params.cols - 1 < s.params.cols; omega⟩

theorem keeps_om : KeepsRanges omEffect := by
  intro s h
  have := h.scrollMaxLt
  have := h.regionLe
  refine ⟨_, rfl, rangeInv_emit (rangeInv_cursor h ?_ (by omega))⟩
  split <;> omega

theorem keeps_hook (d) : KeepsRanges (modeHook d) := by
  intro s h
  unfold modeHook
  refine keeps_then (f := fun s => if d.modes.colm then colmEffect s else .next s) (g := fun t => if d.modes.om then omEffect t else .next t) ?_ ?_ s h
  · intro s h; dsimp only; split
    · exact keeps_colm s h
    · exact ⟨_, rfl, h⟩
  · intro s h; dsimp only; split
    · exact keeps_om s h
    · exact ⟨_, rfl, h⟩

theorem keeps_walkModes {f : Nat → State → Out} (hf : ∀ p, KeepsRanges (f p)) (ps) :
    KeepsRanges (walkModes f ps) := by
  intro s h
  obtain ⟨m, h1, h2⟩ := keeps_walk hf ps s h
  obtain ⟨t, h3, h4⟩ := keeps_hook (StateWord.xor s.word m.word) m h2
  exact ⟨t, by unfold walkModes; rw [h1]; exact h3, h4⟩

theorem inGrid_origin {s} (h : RangeInv s) :
    s.inGrid 0 0 = true := (State.inGrid_iff _ _ _).mpr ⟨by have := h.dims; omega, by have := h.dims; omega⟩

theorem inGrid_last {s} (h : RangeInv s) :
    s.inGrid (s.params.rows - 1) (s.params.cols - 1) = true :=
  (State.inGrid_iff _ _ _).mpr ⟨by have := h.dims; omega, by have := h.dims; omega⟩

theorem inGrid_row {s c} (h : RangeInv s) (hc : c < s.params.cols) :
    s.inGrid s.row c = true := (State.inGrid_iff _ _ _).mpr ⟨h.rowLt, hc⟩

theorem keeps_ed (ps) : KeepsRanges (ed ps) := by
  intro s h
  unfold ed
  split
  · exact keeps_erase h (inGrid_origin h) (inGrid_last h)
  split
  · exact keeps_erase h (inGrid_origin h) (rangeInv_cc h)
  · exact keeps_erase h (rangeInv_cc h) (inGrid_last h)

theorem keeps_el (ps) : KeepsRanges (el ps) := by
  intro s h
  have hd := h.dims
  unfold el
  split
  · exact keeps_erase h (inGrid_row h (by omega)) (rangeInv_cc h)
  split
  · exact keeps_erase h (inGrid_row h (by omega)) (inGrid_row h (by omega))
  · exact keeps_erase h (rangeInv_cc h) (inGrid_row h (by omega))

theorem keeps_ech (ps) : KeepsRanges (ech ps) := by
  intro s h
  have hd := h.dims
  unfold ech
  exact keeps_erase h (rangeInv_cc h) (inGrid_row h (by omega))

theorem keeps_il (ps) : KeepsRanges (il ps) := by
  intro s h
  unfold il
  split
  · rename_i hr
    simp only [State.rowInRegion, Bool.and_eq_true, decide_eq_true_eq] at hr
    obtain ⟨t, h1, h2⟩ := keeps_shiftDown (n := amount ps) h hr.2 h.scrollMaxLt
    exact ⟨_, by rw [h1]; rfl, rangeInv_emit h2⟩
  · exact ⟨_, rfl, h⟩

theorem keeps_dl (ps) : KeepsRanges (dl ps) := by
  intro s h
  unfold dl
  split
  · rename_i hr
    simp only [State.rowInRegion, Bool.and_eq_true, decide_eq_true_eq] at hr
    obtain ⟨t, h1, h2⟩ := keeps_shiftUp (n := amount ps) h hr.2 h.scrollMaxLt
    exact ⟨_, by rw [h1]; rfl, rangeInv_emit h2⟩
  · exact ⟨_, rfl, h⟩

theorem keeps_decstbm (ps) : KeepsRanges (decstbm ps) := by
  intro s h
  have hd := h.dims
  have key : ∀ a b, b < s.params.rows → RangeInv (takeRegion a b s) := by
    intro a b hb
    unfold takeRegion
    split
    · exact h
    · exact rangeInv_region h (by omega) hb _ rfl
  unfold decstbm
  split
  · exact ⟨_, rfl, key _ _ (by omega)⟩
  · exact ⟨_, rfl, key _ _ (by have := clampTo_le (paramPred ps 1) (s.params.rows - 1); omega)⟩

theorem keeps_cancel {f : State → Out} (hf : KeepsRanges f) : KeepsRanges (fun s => thenCancel (f s)) :=
  keeps_then hf (keeps_pure (f := cancel) (fun _ h => rangeInv_cancel h))

end Sys2Proof.Machine
end

