-- ==== Sys2Proof/Laws/PerInstr.lean ====
section
/-! SUPPORT. One statement about every instruction as syntax: the encoding of a well-formed instruction is one form of
30_encoding.md R71, so the decoder accepts it. What it reads from that form is no part of it. -/

namespace Sys2Proof

/-! ### The parameter text that the encoder writes -/

/-- A digit byte is in the body of a CSI sequence: graphic, not of the final class (R74, R75). -/
theorem digit_body (k : Nat) (h : k < 10) :
    isParamByte (BitVec.ofNat 8 (0x30 + k)) = true ∧ isGraphic (BitVec.ofNat 8 (0x30 + k)) = true ∧
      isFinal (BitVec.ofNat 8 (0x30 + k)) = false := by
  interval_cases k <;> decide

theorem decimalWithin_body (fuel : Nat) : ∀ n, ∀ b ∈ decimalWithin fuel n,
    isParamByte b = true ∧ isGraphic b = true ∧ isFinal b = false := by
  induction fuel with
  | zero =>
    intro n b hb
    rw [decimalWithin, List.mem_singleton] at hb
    exact hb ▸ digit_body _ (Nat.mod_lt _ (by omega))
  | succ fuel ih =>
    intro n b hb
    rw [decimalWithin] at hb
    split at hb
    · rw [List.mem_singleton] at hb
      exact hb ▸ digit_body _ ‹_›
    · rcases List.mem_append.mp hb with hb | hb
      · exact ih _ b hb
      · rw [List.mem_singleton] at hb
        exact hb ▸ digit_body _ (Nat.mod_lt _ (by omega))

/-- Every byte of the parameter text is a digit or ';': graphic, and not of the final class. -/
theorem paramText_body (ps : List Nat) : ∀ b ∈ paramText ps,
    isParamByte b = true ∧ isGraphic b = true ∧ isFinal b = false := by
  induction ps with
  | nil => simp [paramText]
  | cons p rest ih =>
    intro b hb
    cases rest with
    | nil => exact decimalWithin_body p p b hb
    | cons q rest =>
      rw [paramText, List.mem_append, List.mem_cons] at hb
      rcases hb with hb | rfl | hb
      · exact decimalWithin_body p p b hb
      · decide
      · exact ih b hb

/-- The bytes of a CSI command with a final-class verb are one form. -/
theorem formError_csiBytes (ps : List Nat) (v : Byte) (hg : isGraphic v = true) :
    formError (0x1B :: 0x5B :: (paramText ps ++ [v])) = none := by
  have hall : (paramText ps ++ [v]).all isGraphic = true := by
    rw [List.all_append, Bool.and_eq_true]
    exact ⟨List.all_eq_true.mpr fun b hb => (paramText_body ps b hb).2.1, by simp [hg]⟩
  have hany : (paramText ps).any isFinal = false :=
    List.any_eq_false.mpr fun b hb => by simp [(paramText_body ps b hb).2.2]
  have hlead : isGraphic 0x5B = true := by decide
  simp only [formError, seqError, List.dropLast_concat, hall, hany, hlead]
  rfl

/-- The decoder accepts the unit of encoding. -/
def accepted (c : Code) : Bool :=
  match decode c with
  | .ok _ => true
  | .error _ => false

theorem accepted_bytes {l : List Byte} (h : formError l = none) : accepted (.bytes l) = true := by
  simp [accepted, decode, h]

theorem accepted_csiBytes (ps : List Nat) (v : Byte) (hg : isGraphic v = true) : accepted (csiBytes ps v) = true :=
  accepted_bytes (formError_csiBytes ps v hg)

end Sys2Proof

namespace Sys2Proof.Laws.Accepted

/-- The decoder accepts the encoding of the instruction, if its operands are ones the encoding admits. -/
def Statement (i : Instr) : Prop :=
  WellFormed i = true → accepted (encode i) = true

theorem nul : Statement .nul :=
  fun _ => rfl

theorem c0Nop01 : Statement .c0Nop01 :=
  fun _ => rfl

theorem c0Nop02 : Statement .c0Nop02 :=
  fun _ => rfl

theorem c0Nop03 : Statement .c0Nop03 :=
  fun _ => rfl

theorem c0Nop04 : Statement .c0Nop04 :=
  fun _ => rfl

theorem c0Nop05 : Statement .c0Nop05 :=
  fun _ => rfl

theorem c0Nop06 : Statement .c0Nop06 :=
  fun _ => rfl

theorem bel : Statement .bel :=
  fun _ => rfl

theorem bs : Statement .bs :=
  fun _ => rfl

theorem ht : Statement .ht :=
  fun _ => rfl

theorem lf : Statement .lf :=
  fun _ => rfl

theorem vt : Statement .vt :=
  fun _ => rfl

theorem ff : Statement .ff :=
  fun _ => rfl

theorem cr : Statement .cr :=
  fun _ => rfl

theorem so : Statement .so :=
  fun _ => rfl

theorem si : Statement .si :=
  fun _ => rfl

theorem c0Nop10 : Statement .c0Nop10 :=
  fun _ => rfl

theorem c0Nop11 : Statement .c0Nop11 :=
  fun _ => rfl

theorem c0Nop12 : Statement .c0Nop12 :=
  fun _ => rfl

theorem c0Nop13 : Statement .c0Nop13 :=
  fun _ => rfl

theorem c0Nop14 : Statement .c0Nop14 :=
  fun _ => rfl

theorem c0Nop15 : Statement .c0Nop15 :=
  fun _ => rfl

theorem c0Nop16 : Statement .c0Nop16 :=
  fun _ => rfl

theorem c0Nop17 : Statement .c0Nop17 :=
  fun _ => rfl

theorem can : Statement .can :=
  fun _ => rfl

theorem c0Nop19 : Statement .c0Nop19 :=
  fun _ => rfl

theorem sub : Statement .sub :=
  fun _ => rfl

theorem esc : Statement .esc :=
  fun _ => rfl

theorem c0Nop1C : Statement .c0Nop1C :=
  fun _ => rfl

theorem c0Nop1D : Statement .c0Nop1D :=
  fun _ => rfl

theorem c0Nop1E : Statement .c0Nop1E :=
  fun _ => rfl

theorem c0Nop1F : Statement .c0Nop1F :=
  fun _ => rfl

theorem csi8 : Statement .csi8 :=
  fun _ => rfl

theorem oscEnd : Statement .oscEnd :=
  fun _ => rfl

theorem print (b : Byte) : Statement (.print b) :=
  fun _ => rfl

theorem ind : Statement .ind :=
  fun _ => rfl

theorem nel : Statement .nel :=
  fun _ => rfl

theorem ri : Statement .ri :=
  fun _ => rfl

theorem decsc : Statement .decsc :=
  fun _ => rfl

theorem decrc : Statement .decrc :=
  fun _ => rfl

theorem decaln : Statement .decaln :=
  fun _ => rfl

theorem escHashOther (f : Option Byte) : Statement (.escHashOther f) := by
  cases f with
  | none => exact fun _ => rfl
  | some f =>
    revert f
    unfold Statement
    decide

theorem scsG0 (f : Option Byte) : Statement (.scsG0 f) := by
  cases f with
  | none => exact fun _ => rfl
  | some f =>
    revert f
    unfold Statement
    decide

theorem scsG1 (f : Option Byte) : Statement (.scsG1 f) := by
  cases f with
  | none => exact fun _ => rfl
  | some f =>
    revert f
    unfold Statement
    decide

theorem csi (b : Option Byte) : Statement (.csi b) := by
  cases b with
  | none => exact fun _ => rfl
  | some b =>
    revert b
    unfold Statement
    decide

theorem osc (t : Option Byte) : Statement (.osc t) := by
  cases t with
  | none => exact fun _ => rfl
  | some t =>
    revert t
    unfold Statement
    decide

theorem escUnrecognised (f : Byte) : Statement (.escUnrecognised f) := by
  revert f
  unfold Statement
  decide

theorem sgr (ps : List Nat) : Statement (.sgr ps) :=
  fun _ => accepted_csiBytes ps 0x6D (by decide)

theorem sm (ps : List Nat) : Statement (.sm ps) :=
  fun _ => accepted_csiBytes ps 0x68 (by decide)

theorem rm (ps : List Nat) : Statement (.rm ps) :=
  fun _ => accepted_csiBytes ps 0x6C (by decide)

theorem ed (ps : List Nat) : Statement (.ed ps) :=
  fun _ => accepted_csiBytes ps 0x4A (by decide)

theorem cup (ps : List Nat) : Statement (.cup ps) :=
  fun _ => accepted_csiBytes ps 0x48 (by decide)

theorem hvp (ps : List Nat) : Statement (.hvp ps) :=
  fun _ => accepted_csiBytes ps 0x66 (by decide)

theorem cuu (ps : List Nat) : Statement (.cuu ps) :=
  fun _ => accepted_csiBytes ps 0x41 (by decide)

theorem cud (ps : List Nat) : Statement (.cud ps) :=
  fun _ => accepted_csiBytes ps 0x42 (by decide)

theorem cuf (ps : List Nat) : Statement (.cuf ps) :=
  fun _ => accepted_csiBytes ps 0x43 (by decide)

theorem cub (ps : List Nat) : Statement (.cub ps) :=
  fun _ => accepted_csiBytes ps 0x44 (by decide)

theorem cnl (ps : List Nat) : Statement (.cnl ps) :=
  fun _ => accepted_csiBytes ps 0x45 (by decide)

theorem cpl (ps : List Nat) : Statement (.cpl ps) :=
  fun _ => accepted_csiBytes ps 0x46 (by decide)

theorem cha (ps : List Nat) : Statement (.cha ps) :=
  fun _ => accepted_csiBytes ps 0x47 (by decide)

theorem vpr (ps : List Nat) : Statement (.vpr ps) :=
  fun _ => accepted_csiBytes ps 0x65 (by decide)

theorem hpr (ps : List Nat) : Statement (.hpr ps) :=
  fun _ => accepted_csiBytes ps 0x61 (by decide)

theorem vpa (ps : List Nat) : Statement (.vpa ps) :=
  fun _ => accepted_csiBytes ps 0x64 (by decide)

theorem hpa (ps : List Nat) : Statement (.hpa ps) :=
  fun _ => accepted_csiBytes ps 0x60 (by decide)

theorem el (ps : List Nat) : Statement (.el ps) :=
  fun _ => accepted_csiBytes ps 0x4B (by decide)

theorem ich (ps : List Nat) : Statement (.ich ps) :=
  fun _ => accepted_csiBytes ps 0x40 (by decide)

theorem dch (ps : List Nat) : Statement (.dch ps) :=
  fun _ => accepted_csiBytes ps 0x50 (by decide)

theorem il (ps : List Nat) : Statement (.il ps) :=
  fun _ => accepted_csiBytes ps 0x4C (by decide)

theorem dl (ps : List Nat) : Statement (.dl ps) :=
  fun _ => accepted_csiBytes ps 0x4D (by decide)

theorem ech (ps : List Nat) : Statement (.ech ps) :=
  fun _ => accepted_csiBytes ps 0x58 (by decide)

theorem decstbm (ps : List Nat) : Statement (.decstbm ps) :=
  fun _ => accepted_csiBytes ps 0x72 (by decide)

theorem scp : Statement .scp :=
  fun _ => accepted_csiBytes [] 0x73 (by decide)

theorem rcp : Statement .rcp :=
  fun _ => accepted_csiBytes [] 0x75 (by decide)

theorem csiUnrecognised (v : Byte) : Statement (.csiUnrecognised v) := by
  intro h
  simp only [WellFormed, Bool.and_eq_true] at h
  refine accepted_csiBytes [] v ?_
  revert v
  decide

theorem sgr0 : Statement .sgr0 :=
  fun _ => rfl

theorem sgrBold (p : Nat) : Statement (.sgrBold p) :=
  fun _ => rfl

theorem sgrBlink : Statement .sgrBlink :=
  fun _ => rfl

theorem sgrReverse (p : Nat) : Statement (.sgrReverse p) :=
  fun _ => rfl

theorem sgrInvisible : Statement .sgrInvisible :=
  fun _ => rfl

theorem sgrPrimary : Statement .sgrPrimary :=
  fun _ => rfl

theorem sgrAltcs : Statement .sgrAltcs :=
  fun _ => rfl

theorem sgrBoldOff (p : Nat) : Statement (.sgrBoldOff p) :=
  fun _ => rfl

theorem sgrBlinkOff : Statement .sgrBlinkOff :=
  fun _ => rfl

theorem sgrInvisibleOff : Statement .sgrInvisibleOff :=
  fun _ => rfl

theorem sgrFg (p : Nat) : Statement (.sgrFg p) :=
  fun _ => rfl

theorem sgrFgDefault : Statement .sgrFgDefault :=
  fun _ => rfl

theorem sgrBg (p : Nat) : Statement (.sgrBg p) :=
  fun _ => rfl

theorem sgrBgDefault : Statement .sgrBgDefault :=
  fun _ => rfl

theorem sgrIgnored (p : Nat) : Statement (.sgrIgnored p) :=
  fun _ => rfl

theorem smCkm : Statement .smCkm :=
  fun _ => rfl

theorem smAnm : Statement .smAnm :=
  fun _ => rfl

theorem smColm : Statement .smColm :=
  fun _ => rfl

theorem smSclm : Statement .smSclm :=
  fun _ => rfl

theorem smScnm : Statement .smScnm :=
  fun _ => rfl

theorem smOm : Statement .smOm :=
  fun _ => rfl

theorem smAwm : Statement .smAwm :=
  fun _ => rfl

theorem smArm : Statement .smArm :=
  fun _ => rfl

theorem smInlm : Statement .smInlm :=
  fun _ => rfl

theorem smLnm : Statement .smLnm :=
  fun _ => rfl

theorem sm25 : Statement .sm25 :=
  fun _ => rfl

theorem smIgnored (p : Nat) : Statement (.smIgnored p) :=
  fun _ => rfl

theorem rm25 : Statement .rm25 :=
  fun _ => rfl

theorem rmIgnored (p : Nat) : Statement (.rmIgnored p) :=
  fun _ => rfl

theorem keyChar (b : Byte) (m : Mods) : Statement (.keyChar b m) :=
  fun _ => rfl

theorem keyUp (m : Mods) : Statement (.keyUp m) :=
  fun _ => rfl

theorem keyDown (m : Mods) : Statement (.keyDown m) :=
  fun _ => rfl

theorem keyRight (m : Mods) : Statement (.keyRight m) :=
  fun _ => rfl

theorem keyLeft (m : Mods) : Statement (.keyLeft m) :=
  fun _ => rfl

theorem keyF1 (m : Mods) : Statement (.keyF1 m) :=
  fun _ => rfl

theorem keyF2 (m : Mods) : Statement (.keyF2 m) :=
  fun _ => rfl

theorem keyF3 (m : Mods) : Statement (.keyF3 m) :=
  fun _ => rfl

theorem keyF4 (m : Mods) : Statement (.keyF4 m) :=
  fun _ => rfl

theorem keyF5 (m : Mods) : Statement (.keyF5 m) :=
  fun _ => rfl

theorem keyF6 (m : Mods) : Statement (.keyF6 m) :=
  fun _ => rfl

theorem keyF7 (m : Mods) : Statement (.keyF7 m) :=
  fun _ => rfl

theorem keyF8 (m : Mods) : Statement (.keyF8 m) :=
  fun _ => rfl

theorem keyF9 (m : Mods) : Statement (.keyF9 m) :=
  fun _ => rfl

theorem keyF10 (m : Mods) : Statement (.keyF10 m) :=
  fun _ => rfl

theorem keyF11 (m : Mods) : Statement (.keyF11 m) :=
  fun _ => rfl

theorem keyF12 (m : Mods) : Statement (.keyF12 m) :=
  fun _ => rfl

theorem keyInsert (m : Mods) : Statement (.keyInsert m) :=
  fun _ => rfl

theorem keyDelete (m : Mods) : Statement (.keyDelete m) :=
  fun _ => rfl

theorem keyHome (m : Mods) : Statement (.keyHome m) :=
  fun _ => rfl

theorem keyEnd (m : Mods) : Statement (.keyEnd m) :=
  fun _ => rfl

theorem keyPageUp (m : Mods) : Statement (.keyPageUp m) :=
  fun _ => rfl

theorem keyPageDown (m : Mods) : Statement (.keyPageDown m) :=
  fun _ => rfl

theorem keySuspend (m : Mods) : Statement (.keySuspend m) :=
  fun _ => rfl

theorem keyNull (m : Mods) : Statement (.keyNull m) :=
  fun _ => rfl

theorem keyReleased (k : KeyIdent) (m : Mods) : Statement (.keyReleased k m) := by
  intro h
  have hk : isKnownKey k = true := h
  simp [accepted, encode, decode, decodeKey, hk]

end Sys2Proof.Laws.Accepted
end

