-- ==== Sys2Proof/Tests/Slice0.lean ====
section
/-! SUPPORT. The model's own tests: ill-formed instructions are refused, words written out from 30_encoding.md decode to what
they stand for, one step of each instruction gives what 95_test_vectors.md (V<n>, E<n>) or the named rule says, and for every
statement with hypotheses a state and operands that meet them. Expected results come from the spec's vectors and rules. -/

namespace Sys2Proof.Tests

open Sys2Proof Sys2Proof.Machine

/-! ### Small states (95_test_vectors.md section 0) -/

/-- Configuration `T`. -/
def paramsT : Params := { Params.reference with rows := 3, cols := 5, accCap := 8 }

/-- The start state under `T`. -/
def start : State := State.construct paramsT .minimal

/-- A cell with attribute `NORMAL`. -/
def plain (code : Nat) : Cell := { ch := BitVec.ofNat 8 code, attr := normalAttr paramsT }

/-- The program `L5`: row 0 is `ABCDE`, the cursor at the pending-wrap column. -/
def lineL5 : State :=
  { start with col := 5, grid := [(0, plain 0x41), (1, plain 0x42), (2, plain 0x43), (3, plain 0x44), (4, plain 0x45)] }

/-- The program `G3`: rows `aaaaa`, `bbbbb`, `ccccc`, the cursor at the pending-wrap column of row 2. -/
def gridG3 : State :=
  { start with row := 2, col := 5, grid := (List.range 15).map (fun i => (i, plain (0x61 + i / 5))) }

/-- `s` with the cursor at `(r, c)`. -/
def cursorAt (r c : Nat) (s : State) : State := { s with row := r, col := c }

/-- `s` with scrolling region `[a, b]` short of the full height. -/
def region (a b : Nat) (s : State) : State :=
  { s with scrollMin := a, scrollMax := b, word := { s.word with short := true } }

/-- `s` with a sequence in progress. -/
def opened (text : List Byte) (s : State) : State := { s with acc := text, word := { s.word with esc := true } }

/-- `s` with one mode bit set. -/
def mode (m : ModeBit) (s : State) : State := { s with word := { s.word with modes := withMode s.word.modes m } }

/-- `s` with one call of the host. -/
def call (c : HostCall) (s : State) : State := { s with calls := [c] }

/-- One step on a byte. -/
def onByte (b : Byte) (s : State) : Out := step (call (.byte b) s)

/-- One step on the verb of a CSI sequence whose body has arrived. -/
def onCsi (body : List Byte) (v : Byte) (s : State) : Out := onByte v (opened (0x5B :: body) s)

/-- One step on a key that is pressed. -/
def onKey (k : KeyIdent) (s : State) : Out :=
  step (call (.key { key := k, pressed := true, mods := ⟨false, false, false, false⟩ }) s)

/-- What `f` reads of the next state. -/
def sees {α : Type} (o : Out) (f : State → α) : Option α :=
  match o with
  | .next t => some (f t)
  | _ => none

/-- The character codes of row `r`. -/
def rowOf (r : Nat) (t : State) : List Nat := (List.range t.params.cols).map (fun c => (t.rawCell r c).ch.toNat)

/-- The attribute words of row `r`. -/
def attrsOf (r : Nat) (t : State) : List Nat := (List.range t.params.cols).map (fun c => (t.rawCell r c).attr.toWord.toNat)

/-- The character codes of several rows. -/
def rowsOf (rs : List Nat) (t : State) : List (List Nat) := rs.map (fun r => rowOf r t)

/-- Cursor and events. -/
def cursorOf (t : State) : Nat × Nat × List SinkEvent := (t.row, t.col, t.sink)

/-- The `InvCell` events of row `r` from column `c` on, `n` of them. -/
def cellsOf (r c n : Nat) : List SinkEvent := (List.range n).map (fun i => .invCell r (c + i))

/-- The parser. -/
def parserOf (t : State) : Bool × List Byte := (t.word.esc, t.acc)

def codesOf (l : List Char) : List Nat := l.map Char.toNat

/-! ### WellFormed: an ill-formed term for each check -/

theorem test_illFormed_bytes : ∀ i ∈ [Instr.print 0x1F, .print 0x9B, .escHashOther (some 0x38), .escHashOther (some 0x1F),
    .scsG0 (some 0x9B), .scsG1 (some 0x07), .csi (some 0x41), .csi (some 0x9B), .osc (some 0x07), .escUnrecognised 0x44,
    .escUnrecognised 0x5D, .escUnrecognised 0x1B, .csiUnrecognised 0x41, .csiUnrecognised 0x31],
    WellFormed i = false := by decide

theorem test_illFormed_values : ∀ i ∈ [Instr.sgrBold 3, .sgrReverse 8, .sgrBoldOff 23, .sgrFg 29, .sgrFg 38, .sgrBg 39,
    .sgrBg 48, .sgrIgnored 31, .smIgnored 20, .rmIgnored 25, .keyReleased (.unknown 0) ⟨false, false, false, false⟩],
    WellFormed i = false := by decide

/-! ### Decode: a word of every constructor, from 30_encoding.md -/

/-- R70, R101 to R119. -/
theorem test_decode_control : ∀ e ∈ [
    ([0x00], Instr.nul), ([0x01], .c0Nop01), ([0x02], .c0Nop02), ([0x03], .c0Nop03), ([0x04], .c0Nop04), ([0x05], .c0Nop05),
    ([0x06], .c0Nop06), ([0x07], .bel), ([0x08], .bs), ([0x09], .ht), ([0x0A], .lf), ([0x0B], .vt), ([0x0C], .ff),
    ([0x0D], .cr), ([0x0E], .so), ([0x0F], .si), ([0x10], .c0Nop10), ([0x11], .c0Nop11), ([0x12], .c0Nop12),
    ([0x13], .c0Nop13), ([0x14], .c0Nop14), ([0x15], .c0Nop15), ([0x16], .c0Nop16), ([0x17], .c0Nop17), ([0x18], .can),
    ([0x19], .c0Nop19), ([0x1A], .sub), ([0x1B], .esc), ([0x1C], .c0Nop1C), ([0x1D], .c0Nop1D), ([0x1E], .c0Nop1E),
    ([0x1F], .c0Nop1F), ([0x9B], .csi8), ([0x20], .print 0x20), ([0x84], .print 0x84), ([0xFF], .print 0xFF)],
    decode (.bytes e.1) = .ok e.2 := by decide

/-- R72, R73, R76 (41_escape.md R131 to R143). -/
theorem test_decode_escape : ∀ e ∈ [
    ([0x1B, 0x44], Instr.ind), ([0x1B, 0x45], .nel), ([0x1B, 0x4D], .ri), ([0x1B, 0x37], .decsc), ([0x1B, 0x38], .decrc),
    ([0x1B, 0x23, 0x38], .decaln), ([0x1B, 0x23, 0x33], .escHashOther (some 0x33)), ([0x1B, 0x23], .escHashOther none),
    ([0x1B, 0x28, 0x30], .scsG0 (some 0x30)), ([0x1B, 0x28], .scsG0 none), ([0x1B, 0x29, 0x42], .scsG1 (some 0x42)),
    ([0x1B, 0x29], .scsG1 none), ([0x1B, 0x5B], .csi none), ([0x1B, 0x5B, 0x31], .csi (some 0x31)),
    ([0x1B, 0x5D], .osc none), ([0x1B, 0x5D, 0x30, 0x3B], .osc (some 0x3B)), ([0x1B, 0x5D, 0x30, 0x07], .oscEnd),
    ([0x1B, 0x63], .escUnrecognised 0x63)],
    decode (.bytes e.1) = .ok e.2 := by decide

/-- R74, R80, R85: `ESC [` and 0x9B, with and without '?', with parameters and without. -/
theorem test_decode_csi : ∀ e ∈ [
    ([0x1B, 0x5B, 0x31, 0x3B, 0x33, 0x31, 0x6D], Instr.sgr [1, 31]), ([0x1B, 0x5B, 0x3F, 0x37, 0x68], .sm [7]),
    ([0x1B, 0x5B, 0x3F, 0x32, 0x35, 0x6C], .rm [25]), ([0x1B, 0x5B, 0x4A], .ed []),
    ([0x1B, 0x5B, 0x35, 0x3B, 0x31, 0x30, 0x48], .cup [5, 10]), ([0x1B, 0x5B, 0x3B, 0x33, 0x66], .hvp [0, 3]),
    ([0x9B, 0x39, 0x41], .cuu [9]), ([0x9B, 0x35, 0x42], .cud [5]), ([0x9B, 0x43], .cuf []), ([0x9B, 0x32, 0x44], .cub [2]),
    ([0x9B, 0x45], .cnl []), ([0x9B, 0x32, 0x46], .cpl [2]), ([0x9B, 0x47], .cha []), ([0x9B, 0x32, 0x65], .vpr [2]),
    ([0x9B, 0x32, 0x61], .hpr [2]), ([0x9B, 0x33, 0x64], .vpa [3]), ([0x9B, 0x32, 0x60], .hpa [2]), ([0x9B, 0x31, 0x4B], .el [1]),
    ([0x9B, 0x32, 0x40], .ich [2]), ([0x9B, 0x30, 0x50], .dch [0]), ([0x9B, 0x4C], .il []), ([0x9B, 0x32, 0x4D], .dl [2]),
    ([0x9B, 0x32, 0x58], .ech [2]), ([0x9B, 0x32, 0x3B, 0x33, 0x72], .decstbm [2, 3]), ([0x9B, 0x73], .scp), ([0x9B, 0x75], .rcp),
    ([0x9B, 0x36, 0x6E], .csiUnrecognised 0x6E), ([0x9B, 0x32, 0x24, 0x71], .csiUnrecognised 0x71)],
    decode (.bytes e.1) = .ok e.2 := by decide

/-- R86. -/
theorem test_decode_sgr_param : ∀ e ∈ [
    (0, Instr.sgr0), (1, .sgrBold 1), (2, .sgrBold 2), (4, .sgrBold 4), (5, .sgrBlink), (7, .sgrReverse 7), (27, .sgrReverse 27),
    (8, .sgrInvisible), (10, .sgrPrimary), (11, .sgrAltcs), (22, .sgrBoldOff 22), (24, .sgrBoldOff 24), (25, .sgrBlinkOff),
    (28, .sgrInvisibleOff), (30, .sgrFg 30), (37, .sgrFg 37), (39, .sgrFgDefault), (40, .sgrBg 40), (47, .sgrBg 47),
    (49, .sgrBgDefault), (3, .sgrIgnored 3), (38, .sgrIgnored 38), (48, .sgrIgnored 48), (196, .sgrIgnored 196)],
    decode (.param .sgr (some e.1)) = .ok e.2 := by decide

/-- R86; 45_modes.md R221 to R223, R227. -/
theorem test_decode_mode_param : (∀ e ∈ [
    (1, Instr.smCkm), (2, .smAnm), (3, .smColm), (4, .smSclm), (5, .smScnm), (6, .smOm), (7, .smAwm), (8, .smArm), (9, .smInlm),
    (20, .smLnm), (25, .sm25), (0, .smIgnored 0), (10, .smIgnored 10), (47, .smIgnored 47)],
    decode (.param .sm (some e.1)) = .ok e.2) ∧
  decode (.param .rm (some 25)) = .ok .rm25 ∧ decode (.param .rm (some 7)) = .ok (.rmIgnored 7) ∧
  decode (.param .sgr none) = .ok .sgr0 ∧ decode (.param .sm none) = .error .noParameter := by decide

def noMods : Mods := ⟨false, false, false, false⟩

/-- R88, R89; 46_keyboard.md R242 to R249. -/
theorem test_decode_key : (∀ e ∈ [
    (KeyIdent.char 0x61, Instr.keyChar 0x61 noMods), (.up, .keyUp noMods), (.down, .keyDown noMods), (.right, .keyRight noMods),
    (.left, .keyLeft noMods), (.f1, .keyF1 noMods), (.f2, .keyF2 noMods), (.f3, .keyF3 noMods), (.f4, .keyF4 noMods),
    (.f5, .keyF5 noMods), (.f6, .keyF6 noMods), (.f7, .keyF7 noMods), (.f8, .keyF8 noMods), (.f9, .keyF9 noMods),
    (.f10, .keyF10 noMods), (.f11, .keyF11 noMods), (.f12, .keyF12 noMods), (.insert, .keyInsert noMods),
    (.delete, .keyDelete noMods), (.home, .keyHome noMods), (.endKey, .keyEnd noMods), (.pageUp, .keyPageUp noMods),
    (.pageDown, .keyPageDown noMods), (.suspend, .keySuspend noMods), (.null, .keyNull noMods)],
    decode (.key { key := e.1, pressed := true, mods := noMods }) = .ok e.2) ∧
  decode (.key { key := .up, pressed := false, mods := noMods }) = .ok (.keyReleased .up noMods) ∧
  decode (.key { key := .unknown 1, pressed := false, mods := noMods }) = .error .badKey := by decide

/-- R71, R78: bytes that are not one form. -/
theorem test_decode_rejects : ∀ e ∈ [
    (([] : List Byte), DecodeError.noByte), ([0x41, 0x42], .notALead), ([0x1B, 0x5B, 0x0D, 0x43], .controlInside),
    ([0x1B, 0x1B], .controlInside), ([0x1B, 0x44, 0x41], .trailing), ([0x1B, 0x5B, 0x41, 0x42], .trailing),
    ([0x1B, 0x28, 0x30, 0x30], .trailing)],
    decode (.bytes e.1) = .error e.2 := by decide

/-! ### Words of the opcode table -/

/-- The table's numbers for IND, DECALN and CSI8 (`fixed` of their rows). -/
theorem test_table_words : decodeTableWord 16 0x1B44 = some .ind ∧ decodeTableWord 24 0x1B2338 = some .decaln ∧
    decodeTableWord 8 0x9B = some .csi8 ∧ decodeTableWord 16 0x1B5D = some (.osc none) := by decide

/-- From reset, the very next step runs the placed instruction (R132, R137, R106, R107 on the reset state). -/
theorem test_withFetchWord :
    sees (step (State.reset.withFetchWord 16 0x1B44)) cursorOf = some (1, 0, [.invCursor]) ∧
    sees (step (State.reset.withFetchWord 8 0x07)) cursorOf = some (0, 0, [.bell]) ∧
    sees (step (State.reset.withFetchWord 8 0x41)) cursorOf = some (0, 1, [.invCell 0 0]) := by decide

/-! ### Control characters (40_parser_control.md) -/

/-- V1, V2, R119: no effect, inside a sequence as well. -/
theorem test_no_effect : ∀ b ∈ [0x00, 0x01, 0x02, 0x03, 0x04, 0x05, 0x06, 0x10, 0x11, 0x12, 0x13, 0x14, 0x15, 0x16, 0x17,
    0x19, 0x1C, 0x1D, 0x1E, 0x1F], ∀ s ∈ [gridG3, opened [0x5B, 0x32] gridG3], sees (onByte b s) id = some s := by decide

/-- V3, V27. -/
theorem test_bel : sees (onByte 0x07 start) cursorOf = some (0, 0, [.bell]) ∧
    sees (onByte 0x07 (opened [0x5B, 0x32] start)) (fun t => (t.sink, parserOf t)) = some ([.bell], true, [0x5B, 0x32]) := by
  decide

/-- V5, R107: from the pending-wrap column, and at column 0. -/
theorem test_bs : sees (onByte 0x08 lineL5) cursorOf = some (0, 4, [.invCursor]) ∧
    sees (onByte 0x08 start) cursorOf = some (0, 0, [.invCursor]) := by decide

/-- V8, V9 (with 20 and 12 columns), V10. -/
theorem test_ht :
    sees (onByte 0x09 (cursorAt 0 8 (State.construct { paramsT with cols := 20 } .minimal))) cursorOf = some (0, 16, [.invCursor]) ∧
    sees (onByte 0x09 (cursorAt 0 9 (State.construct { paramsT with cols := 12 } .minimal))) cursorOf = some (0, 11, [.invCursor]) ∧
    sees (onByte 0x09 lineL5) cursorOf = some (0, 4, [.invCursor]) := by decide

/-- V11, V12. -/
theorem test_lf : sees (onByte 0x0A (cursorAt 0 2 start)) cursorOf = some (1, 2, [.invCursor]) ∧
    sees (onByte 0x0A (mode .lnm (cursorAt 0 2 start))) cursorOf = some (1, 0, [.invCursor]) := by decide

/-- V110: the region moves up, the row above it stays. -/
theorem test_lf_scrolls : sees (onByte 0x0A (region 1 2 (cursorAt 2 0 gridG3)))
    (fun t => (rowsOf [0, 1, 2] t, cursorOf t)) =
    some ([codesOf ['a', 'a', 'a', 'a', 'a'], codesOf ['c', 'c', 'c', 'c', 'c'], codesOf [' ', ' ', ' ', ' ', ' ']],
      2, 0, [.invScreen]) := by decide

/-- V13, one step each. -/
theorem test_vt_ff : sees (onByte 0x0B (mode .lnm (cursorAt 0 2 start))) cursorOf = some (1, 0, [.invCursor]) ∧
    sees (onByte 0x0C (mode .lnm (cursorAt 1 0 start))) cursorOf = some (2, 0, [.invCursor]) := by decide

/-- V16, V20: inside a sequence, which goes on. -/
theorem test_cr : sees (onByte 0x0D (cursorAt 0 2 start)) cursorOf = some (0, 0, [.invCursor]) ∧
    sees (onByte 0x0D (opened [0x5B, 0x32] (cursorAt 0 3 start))) (fun t => (cursorOf t, parserOf t)) =
      some ((0, 0, [.invCursor]), true, [0x5B, 0x32]) := by decide

/-- V18. -/
theorem test_so_si : sees (onByte 0x0E start) (fun t => (t.word.altcs, t.sink)) = some (true, []) ∧
    sees (onByte 0x0F { start with word := { start.word with altcs := true } }) (fun t => (t.word.altcs, t.sink)) =
      some (false, []) := by decide

/-- V21, V22, V49. -/
theorem test_can_sub : ∀ b ∈ [0x18, 0x1A], ∀ text ∈ [[0x5B, 0x32], [0x5D, 0x61]],
    sees (onByte b (opened text gridG3)) id = some gridG3 := by decide

/-- V23, V28: ESC starts, and restarts. -/
theorem test_esc : sees (onByte 0x1B start) parserOf = some (true, []) ∧
    sees (onByte 0x1B (opened [0x5B, 0x32] start)) parserOf = some (true, []) := by decide

/-- V26, V29: 0x9B starts a CSI, and reseeds. -/
theorem test_csi8 : sees (onByte 0x9B start) parserOf = some (true, [0x5B]) ∧
    sees (onByte 0x9B (opened [0x5D, 0x61] start)) parserOf = some (true, [0x5B]) := by decide

/-- V45: the BEL that ends an OSC does not ring. -/
theorem test_oscEnd : sees (onByte 0x07 (opened [0x5D, 0x30, 0x3B] gridG3)) id = some gridG3 := by decide

/-! ### Put-Char (42_putchar.md) -/

/-- V53 (last byte), V58: the trailing space stays on the last column. -/
theorem test_print : sees (onByte 0x45 (cursorAt 0 4 start)) (fun t => (cursorOf t, rowOf 0 t)) =
      some ((0, 5, [.invCell 0 4]), codesOf [' ', ' ', ' ', ' ', 'E']) ∧
    sees (onByte 0x20 (cursorAt 0 4 lineL5)) (fun t => (cursorOf t, rowOf 0 t)) =
      some ((0, 4, [.invCell 0 4]), codesOf ['A', 'B', 'C', 'D', ' ']) := by decide

/-- V54, V55, V62 at the pending-wrap column. -/
theorem test_print_wrap :
    sees (onByte 0x46 lineL5) (fun t => (cursorOf t, rowOf 0 t)) =
      some ((0, 5, [.invCell 0 4]), codesOf ['A', 'B', 'C', 'D', 'F']) ∧
    sees (onByte 0x46 (mode .awm lineL5)) (fun t => (cursorOf t, rowOf 1 t)) =
      some ((1, 1, [.invCursor, .invCell 1 0]), codesOf ['F', ' ', ' ', ' ', ' ']) ∧
    sees (onByte 0x20 (mode .awm lineL5)) cursorOf = some (1, 1, [.invCursor, .invCell 1 0]) := by decide

/-- `start` in the alternate character set, with `ALTCS_REJECT_WRITES_ATTR` as given. -/
def altcsStart (writesAttr : Bool) : State :=
  { start with params := { paramsT with altcsRejectWritesAttr := writesAttr }, word := { start.word with altcs := true } }

/-- V64, V65, V19: the character and the attribute of the cell, and the events; the cursor moves on in each. -/
theorem test_print_altcs : ∀ e ∈ [
    (0x71, true, [0x71, 0x1007], [SinkEvent.invCell 0 0]), (0x41, true, [0x20, 0x1007], [.invCell 0 0]),
    (0x61, false, [0x20, 0x0007], [])],
    sees (onByte e.1 (altcsStart e.2.1)) (fun t => ((rowOf 0 t).take 1 ++ (attrsOf 0 t).take 1, cursorOf t)) =
      some (e.2.2.1, 0, 1, e.2.2.2) := by decide

/-! ### Escape sequences (41_escape.md) -/

/-- V31, R132 (a row away from the margin). -/
theorem test_ind : sees (onByte 0x44 (opened [] (cursorAt 2 4 gridG3))) (fun t => (rowsOf [1, 2] t, cursorOf t)) =
      some ([codesOf ['c', 'c', 'c', 'c', 'c'], codesOf [' ', ' ', ' ', ' ', ' ']], 2, 4, [.invScreen]) ∧
    sees (onByte 0x44 (opened [] (cursorAt 2 4 gridG3))) parserOf = some (false, []) ∧
    sees (onByte 0x44 (opened [] (cursorAt 1 3 start))) cursorOf = some (2, 3, [.invCursor]) := by decide

/-- V32. -/
theorem test_nel : sees (onByte 0x45 (opened [] (cursorAt 1 3 start))) cursorOf = some (2, 0, [.invCursor]) := by decide

/-- V33, V113: at the top margin, and above the region at row 0. -/
theorem test_ri : sees (onByte 0x4D (opened [] (cursorAt 0 0 gridG3))) (fun t => (cursorOf t, rowOf 0 t, rowOf 1 t, rowOf 2 t)) =
      some ((0, 0, [.invScreen]), codesOf [' ', ' ', ' ', ' ', ' '], codesOf ['a', 'a', 'a', 'a', 'a'],
        codesOf ['b', 'b', 'b', 'b', 'b']) ∧
    sees (onByte 0x4D (opened [] (region 1 2 (cursorAt 0 0 gridG3)))) (fun t => (cursorOf t, rowOf 0 t)) =
      some ((0, 0, [.invCursor]), codesOf ['a', 'a', 'a', 'a', 'a']) := by decide

/-- V35: the pending wrap is saved. E1: `CUR_ATTR` and `ALTCS` with it. -/
theorem test_decsc :
    sees (onByte 0x37 (opened []
        { lineL5 with curAttr := { normalAttr paramsT with fg := 1, bold := true }, word := { start.word with altcs := true } }))
      (fun t => ([t.saveRow, t.saveCol, t.saveAttr.toWord.toNat], t.word.savedAltcs, t.sink)) =
    some ([0, 5, 0x0101], true, []) := by decide

/-- V34: with no earlier DECSC. -/
theorem test_decrc : sees (onByte 0x38 (opened [] { cursorAt 2 3 start with curAttr := { normalAttr paramsT with bold := true } }))
    (fun t => (cursorOf t, t.curAttr.toWord, t.word.altcs)) = some ((0, 0, [.invCursor]), 0x0007, false) := by decide

/-- V38. -/
theorem test_decaln : sees (onByte 0x38 (opened [0x23] { gridG3 with curAttr := { normalAttr paramsT with bold := true } }))
    (fun t => (cursorOf t, rowOf 2 t, attrsOf 2 t)) =
    some ((2, 5, [.invScreen]), codesOf ['E', 'E', 'E', 'E', 'E'], [0x0107, 0x0107, 0x0107, 0x0107, 0x0107]) := by decide

/-- V39 to V44: consumed, nothing else. -/
theorem test_consumed : ∀ e ∈ [([0x23], 0x33), ([0x28], 0x30), ([0x29], 0x42), ([], 0x78), ([], 0x63), ([], 0x3D)],
    sees (onByte e.2 (opened e.1 gridG3)) id = some gridG3 := by decide

/-- V52: open sequences. -/
theorem test_open : ∀ e ∈ [([0x5B], 0x31), ([], 0x5D), ([], 0x23), ([], 0x28), ([], 0x29), ([], 0x5B)],
    sees (onByte e.2 (opened e.1 gridG3)) id = some (opened (e.1 ++ [e.2]) gridG3) := by decide

/-- V123, V47: the byte that makes `ACC_CAP` cancels; V48: a byte joins an OSC payload. -/
theorem test_bound : sees (onByte 0x31 (opened [0x5B, 0x31, 0x31, 0x31, 0x31, 0x31, 0x31] gridG3)) id = some gridG3 ∧
    sees (onByte 0x65 (opened [0x5D, 0x30, 0x3B, 0x61, 0x62, 0x63, 0x64] gridG3)) id = some gridG3 ∧
    sees (onByte 0x5A (opened [0x5D, 0x61, 0x62] start)) parserOf = some (true, [0x5D, 0x61, 0x62, 0x5A]) := by decide

/-! ### CSI commands (43_csi.md) -/

/-- V67, V68. -/
theorem test_ed : sees (onCsi [] 0x4A (cursorAt 1 2 gridG3)) (fun t => (cursorOf t, rowOf 1 t, rowOf 2 t)) =
      some ((1, 2, cellsOf 1 2 3 ++ cellsOf 2 0 5), codesOf ['b', 'b', ' ', ' ', ' '], codesOf [' ', ' ', ' ', ' ', ' ']) ∧
    sees (onCsi [0x31] 0x4A (cursorAt 1 2 gridG3)) (fun t => (t.sink, rowOf 0 t, rowOf 1 t)) =
      some (cellsOf 0 0 5 ++ cellsOf 1 0 3, codesOf [' ', ' ', ' ', ' ', ' '], codesOf [' ', ' ', ' ', 'b', 'b']) := by decide

/-- V70, E6: ED 0 from the pending-wrap column reaches the last cell; ED 2 reaches all of them. -/
theorem test_ed_edge : sees (onCsi [] 0x4A gridG3) cursorOf = some (2, 5, [.invCell 2 4]) ∧
    sees (onCsi [0x32] 0x4A gridG3) (fun t => (cursorOf t, t.grid)) =
      some ((2, 5, cellsOf 0 0 5 ++ cellsOf 1 0 5 ++ cellsOf 2 0 5), []) := by decide

/-- V73, V74, V75, V78. -/
theorem test_cup : ∀ e ∈ [([0x35], 2, 0), ([0x3B, 0x33], 0, 2), ([0x39, 0x39, 0x3B, 0x39, 0x39], 2, 4), ([0x3F, 0x3B, 0x33], 0, 2)],
    sees (onCsi e.1 0x48 start) cursorOf = some (e.2.1, e.2.2, [.invCursor]) := by decide

/-- V76, V77. -/
theorem test_hvp : ∀ e ∈ [([0x30, 0x3B, 0x30], 0, 0), ([0x33, 0x3B, 0x31], 2, 0)],
    sees (onCsi e.1 0x66 start) cursorOf = some (e.2.1, e.2.2, [.invCursor]) := by decide

/-- V79 (CUU), V80 (CUD), V85 (CNL), V86 (CPL), V89 (VPR), V91 (VPA). -/
theorem test_vertical : ∀ e ∈ [
    ([], 0x41, cursorAt 2 0 start, 1, 0), ([0x30], 0x41, cursorAt 2 0 start, 1, 0), ([0x39], 0x41, cursorAt 2 0 start, 0, 0),
    ([0x35], 0x42, start, 2, 0), ([], 0x45, cursorAt 0 3 start, 1, 3), ([0x32], 0x46, cursorAt 2 3 start, 0, 3),
    ([0x32], 0x65, start, 2, 0), ([0x33], 0x64, cursorAt 0 2 start, 2, 2)],
    sees (onCsi e.1 e.2.1 e.2.2.1) cursorOf = some (e.2.2.2.1, e.2.2.2.2, [.invCursor]) := by decide

/-- V81 (CUF), V82 to V84 (CUB), V87, V88 (CHA), V90 (HPR), V92 (HPA). -/
theorem test_horizontal : ∀ e ∈ [
    ([], 0x43, lineL5, 4), ([], 0x44, lineL5, 4), ([0x32], 0x44, lineL5, 3), ([0x33], 0x44, cursorAt 0 1 start, 0),
    ([], 0x47, cursorAt 0 3 start, 0), ([0x32], 0x47, start, 1), ([0x39], 0x47, start, 4), ([0x32], 0x61, start, 2),
    ([0x32], 0x60, start, 1)],
    sees (onCsi e.1 e.2.1 e.2.2.1) cursorOf = some (0, e.2.2.2, [.invCursor]) := by decide

/-- V93. -/
theorem test_el : ∀ e ∈ [
    ([], ['A', 'B', ' ', ' ', ' '], cellsOf 0 2 3), ([0x31], [' ', ' ', ' ', 'D', 'E'], cellsOf 0 0 3),
    ([0x32], [' ', ' ', ' ', ' ', ' '], cellsOf 0 0 5), ([0x35], ['A', 'B', ' ', ' ', ' '], cellsOf 0 2 3)],
    sees (onCsi e.1 0x4B (cursorAt 0 2 lineL5)) (fun t => (cursorOf t, rowOf 0 t)) = some ((0, 2, e.2.2), codesOf e.2.1) := by
  decide

/-- V95, V96. -/
theorem test_ich : (∀ e ∈ [([0x32], ['A', ' ', ' ', 'B', 'C']), ([0x39], ['A', ' ', ' ', ' ', ' '])],
      sees (onCsi e.1 0x40 (cursorAt 0 1 lineL5)) (fun t => (cursorOf t, rowOf 0 t)) =
        some ((0, 1, cellsOf 0 1 4), codesOf e.2)) ∧
    sees (onCsi [] 0x40 lineL5) (fun t => (cursorOf t, rowOf 0 t)) =
      some ((0, 5, [.invCell 0 4]), codesOf ['A', 'B', 'C', 'D', ' ']) := by decide

/-- V97. -/
theorem test_dch : ∀ e ∈ [([0x32], ['A', 'D', 'E', ' ', ' ']), ([0x39], ['A', ' ', ' ', ' ', ' ']), ([0x30], ['A', 'C', 'D', 'E', ' '])],
    sees (onCsi e.1 0x50 (cursorAt 0 1 lineL5)) (fun t => (cursorOf t, rowOf 0 t)) = some ((0, 1, cellsOf 0 1 4), codesOf e.2) := by
  decide

/-- V98, V103 (the blank row takes `CUR_ATTR`), V102 (outside the region). -/
theorem test_il : sees (onCsi [] 0x4C { cursorAt 1 0 gridG3 with curAttr := { normalAttr paramsT with bg := 4 } })
      (fun t => (cursorOf t, rowOf 0 t, rowOf 1 t, attrsOf 1 t, rowOf 2 t)) =
      some ((1, 0, [.invScreen]), codesOf ['a', 'a', 'a', 'a', 'a'], codesOf [' ', ' ', ' ', ' ', ' '],
        [0x47, 0x47, 0x47, 0x47, 0x47], codesOf ['b', 'b', 'b', 'b', 'b']) ∧
    sees (onCsi [] 0x4C (region 1 2 (cursorAt 0 0 gridG3))) id = some (region 1 2 (cursorAt 0 0 gridG3)) := by decide

/-- V100, V101. -/
theorem test_dl : sees (onCsi [] 0x4D (cursorAt 1 0 gridG3)) (fun t => (cursorOf t, rowOf 0 t, rowOf 1 t, rowOf 2 t)) =
      some ((1, 0, [.invScreen]), codesOf ['a', 'a', 'a', 'a', 'a'], codesOf ['c', 'c', 'c', 'c', 'c'],
        codesOf [' ', ' ', ' ', ' ', ' ']) ∧
    sees (onCsi [0x32] 0x4D (cursorAt 0 0 gridG3)) (fun t => (rowOf 0 t, rowOf 1 t)) =
      some (codesOf ['c', 'c', 'c', 'c', 'c'], codesOf [' ', ' ', ' ', ' ', ' ']) := by decide

/-- V104. -/
theorem test_ech : ∀ e ∈ [([0x32], ['A', ' ', ' ', 'D', 'E'], 2), ([0x39], ['A', ' ', ' ', ' ', ' '], 4)],
    sees (onCsi e.1 0x58 (cursorAt 0 1 lineL5)) (fun t => (cursorOf t, rowOf 0 t)) =
      some ((0, 1, cellsOf 0 1 e.2.2), codesOf e.2.1) := by decide

/-- V105 to V109. -/
theorem test_decstbm : ∀ e ∈ [
    ([0x32, 0x3B, 0x33], start, 1, 2, true), ([], region 1 2 start, 0, 2, false), ([0x33, 0x3B, 0x32], start, 0, 2, false),
    ([0x30, 0x3B, 0x39], region 1 2 start, 0, 2, false), ([0x33], start, 0, 2, false), ([0x31], start, 0, 0, true),
    ([0x32, 0x3B, 0x32], start, 1, 1, true)],
    sees (onCsi e.1 0x72 e.2.1) (fun t => ([t.scrollMin, t.scrollMax, t.row, t.col], t.word.short, t.sink)) =
      some ([e.2.2.1, e.2.2.2.1, 0, 0], e.2.2.2.2, []) := by decide

/-- V116, V118: SCP saves to its own slot, or to the position of the DECSC slot when that is shared. -/
theorem test_scp : sees (onCsi [] 0x73 lineL5) (fun t => (t.csrRow, t.csrCol, t.saveCol, t.sink)) = some (0, 5, 0, []) ∧
    sees (onCsi [] 0x73 { lineL5 with params := { paramsT with sharedSaveSlot := true } })
      (fun t => (t.csrCol, t.saveRow, t.saveCol, t.sink)) = some (0, 0, 5, []) := by decide

/-- V114, V115. -/
theorem test_rcp : sees (onCsi [] 0x75 { gridG3 with csrRow := 1, csrCol := 1 }) cursorOf = some (1, 1, [.invCursor]) ∧
    sees (onCsi [] 0x75 gridG3) cursorOf = some (0, 0, [.invCursor]) := by decide

/-- V119, V120. -/
theorem test_csi_unrecognised : sees (onCsi [0x36] 0x6E gridG3) id = some gridG3 ∧
    sees (onCsi [0x32, 0x24] 0x71 gridG3) id = some gridG3 := by decide

/-! ### SGR (44_sgr.md) -/

/-- V126, V137 to V142. -/
theorem test_sgr : ∀ e ∈ [
    ([], 0x0007), ([0x31, 0x3B, 0x33, 0x31], 0x0101), ([0x31, 0x3B, 0x30], 0x0007), ([0x3B, 0x31], 0x0107),
    ([0x39, 0x31], 0x0007), ([0x3F, 0x31], 0x0107)],
    sees (onCsi e.1 0x6D start) (fun t => (t.curAttr.toWord.toNat, t.sink)) = some (e.2, []) := by decide

/-- V127 to V136 and V140, from `NORMAL`. -/
theorem test_sgr_params : ∀ e ∈ [
    (Instr.sgr0, 0x0007), (.sgrBold 1, 0x0107), (.sgrBold 2, 0x0107), (.sgrBold 4, 0x0107), (.sgrBlink, 0x0207),
    (.sgrReverse 7, 0x0407), (.sgrReverse 27, 0x0407), (.sgrInvisible, 0x0807), (.sgrFg 31, 0x0001), (.sgrFg 37, 0x0007),
    (.sgrBg 44, 0x0047), (.sgrBg 47, 0x0077), (.sgrIgnored 38, 0x0007)],
    sees (exec e.1 start) (fun t => t.curAttr.toWord.toNat) = some e.2 := by decide

/-- V143 to V150, from the attribute 0x0F23 (0x0F07 for the flags). -/
theorem test_sgr_params_from_set : ∀ e ∈ [
    (Instr.sgr0, 0x0007), (.sgrBoldOff 22, 0x0E23), (.sgrBoldOff 24, 0x0E23), (.sgrBlinkOff, 0x0D23), (.sgrReverse 27, 0x0F23),
    (.sgrInvisibleOff, 0x0723), (.sgrFgDefault, 0x0F27), (.sgrBgDefault, 0x0F03)],
    sees (exec e.1 { start with curAttr := { fg := 3, bg := 2, bold := true, blink := true, reverse := true, invisible := true,
                                             altcs := false } }) (fun t => t.curAttr.toWord.toNat) = some e.2 := by decide

/-- V132, V133, V151. -/
theorem test_sgr_charset : sees (exec .sgrAltcs start) (fun t => t.word.altcs) = some true ∧
    sees (exec .sgrPrimary { start with word := { start.word with altcs := true } }) (fun t => t.word.altcs) = some false ∧
    sees (exec .sgr0 { start with word := { start.word with altcs := true } }) (fun t => t.word.altcs) = some true := by decide

/-! ### Modes (45_modes.md) -/

/-- V154 to V159, with the bit positions of 10_state.md R29. -/
theorem test_sm_params : ∀ e ∈ [
    (Instr.smCkm, 0x0020), (.smAnm, 0x0040), (.smColm, 0x0080), (.smSclm, 0x0100), (.smScnm, 0x0200), (.smOm, 0x0400),
    (.smAwm, 0x0800), (.smArm, 0x1000), (.smInlm, 0x2000), (.smLnm, 0x0010), (.sm25, 0), (.smIgnored 47, 0), (.rm25, 0),
    (.rmIgnored 7, 0)],
    sees (exec e.1 start) (fun t => (t.word.toWord.toNat, t.sink)) = some (e.2, []) := by decide

/-- V160, V161, V165, V166, V167. -/
theorem test_sm : ∀ e ∈ [
    ([0x3F, 0x31, 0x3B, 0x32], start, 0x0060, 0, 0, []), ([], start, 0x0000, 0, 0, []),
    ([0x3F, 0x36], start, 0x0400, 0, 0, [SinkEvent.invCursor]), ([0x3F, 0x36], region 1 2 (cursorAt 0 4 start), 0x0408, 1, 0, [.invCursor]),
    ([0x3F, 0x36], mode .om (region 1 2 (cursorAt 2 2 start)), 0x0408, 2, 2, [])],
    sees (onCsi e.1 0x68 e.2.1) (fun t => (t.word.toWord.toNat, cursorOf t)) = some e.2.2 := by decide

/-- V168: the COLM side effect, then the OM side effect. -/
theorem test_sm_colm : sees (onCsi [0x3F, 0x33, 0x3B, 0x36] 0x68 (region 1 2 (cursorAt 2 3 gridG3)))
    (fun t => ([t.word.toWord.toNat, t.row, t.col, t.scrollMin, t.scrollMax], t.sink, t.grid)) =
    some ([0x0480, 0, 0, 0, 2], .invCursor :: (cellsOf 0 0 5 ++ cellsOf 1 0 5 ++ cellsOf 2 0 5) ++ [.invCursor], []) := by
  decide

/-- V169, E5; 10_state.md R29: RM 25 clears `CURINV`. -/
theorem test_rm : sees (onCsi [0x3F, 0x37] 0x6C (mode .awm gridG3)) id = some (mode .awm gridG3) ∧
    sees (onCsi [0x3F, 0x32, 0x35] 0x6C gridG3) id = some gridG3 ∧
    sees (onCsi [0x32, 0x35] 0x6C { start with word := { start.word with curinv := true } }) (fun t => t.word.curinv) =
      some false := by decide

/-! ### Keyboard (46_keyboard.md) -/

/-- V176, V177, V189. -/
theorem test_key_char : sees (onKey (.char 0x0D) start) (fun t => t.out) = some [0x0D] ∧
    sees (onKey .null start) (fun t => t.out) = some [] ∧
    sees (step (call (.key { key := .up, pressed := false, mods := noMods }) start)) (fun t => t.out) = some [] ∧
    sees (onKey (.unknown 7) start) id = none := by decide

/-- V172 to V174. -/
theorem test_key_arrows : ∀ e ∈ [(KeyIdent.up, (0x41 : Byte)), (.down, 0x42), (.right, 0x43), (.left, 0x44)],
    sees (onKey e.1 start) (fun t => t.out) = some [0x1B, e.2] ∧
    sees (onKey e.1 (mode .ckm start)) (fun t => t.out) = some [0x1B, e.2] ∧
    sees (onKey e.1 (mode .anm start)) (fun t => t.out) = some [0x1B, 0x5B, e.2] ∧
    sees (onKey e.1 (mode .ckm (mode .anm start))) (fun t => t.out) = some [0x1B, 0x4F, e.2] := by decide

/-- V178, V179. -/
theorem test_key_minimal : ∀ e ∈ [
    (KeyIdent.f1, [0x1B, 0x5B, 0x5B, 0x41]), (.f2, [0x1B, 0x5B, 0x5B, 0x42]), (.f3, [0x1B, 0x5B, 0x5B, 0x43]),
    (.f4, [0x1B, 0x5B, 0x5B, 0x44]), (.f5, [0x1B, 0x5B, 0x5B, 0x45]), (.f6, []), (.f7, []), (.f8, []), (.f9, []), (.f10, []),
    (.f11, []), (.f12, []), (.insert, []), (.delete, []), (.home, []), (.endKey, []), (.pageUp, []), (.pageDown, []),
    (.suspend, [])],
    sees (onKey e.1 start) (fun t => t.out) = some e.2 := by decide

/-- V180 to V182; the strings of R247 for F7 to F9. -/
theorem test_key_rich : ∀ e ∈ [
    (KeyIdent.f1, [0x1B, 0x5B, 0x31, 0x31, 0x7E]), (.f2, [0x1B, 0x5B, 0x31, 0x32, 0x7E]), (.f3, [0x1B, 0x5B, 0x31, 0x33, 0x7E]),
    (.f4, [0x1B, 0x5B, 0x31, 0x34, 0x7E]), (.f5, [0x1B, 0x5B, 0x31, 0x35, 0x7E]), (.f6, [0x1B, 0x5B, 0x31, 0x37, 0x7E]),
    (.f7, [0x1B, 0x5B, 0x31, 0x38, 0x7E]), (.f8, [0x1B, 0x5B, 0x31, 0x39, 0x7E]), (.f9, [0x1B, 0x5B, 0x32, 0x30, 0x7E]),
    (.f10, [0x1B, 0x5B, 0x32, 0x31, 0x7E]), (.f11, [0x1B, 0x5B, 0x32, 0x33, 0x7E]), (.f12, [0x1B, 0x5B, 0x32, 0x34, 0x7E]),
    (.insert, [0x1B, 0x5B, 0x32, 0x7E]), (.delete, [0x1B, 0x5B, 0x33, 0x7E]), (.home, [0x1B, 0x5B, 0x37, 0x7E]),
    (.endKey, [0x1B, 0x5B, 0x38, 0x7E]), (.pageUp, [0x1B, 0x5B, 0x35, 0x7E]), (.pageDown, [0x1B, 0x5B, 0x36, 0x7E]),
    (.suspend, [0x1A])],
    sees (onKey e.1 { start with profile := .rich }) (fun t => t.out) = some e.2 := by decide

/-- V183: a key inside a sequence leaves the sequence. -/
theorem test_key_inside : sees (onKey .up (opened [0x5B, 0x31] start)) (fun t => (t.out, parserOf t)) =
    some ([0x1B, 0x41], true, [0x5B, 0x31]) := by decide

/-! ### Witnesses: for each statement with hypotheses, a state and operands that meet them together -/

/-- The invariant as a computed check. -/
def invCheck (s : State) : Bool :=
  s.params.ok && decide (s.row < s.params.rows) && decide (s.col ≤ s.params.cols) && decide (s.scrollMin ≤ s.scrollMax) &&
    decide (s.scrollMax < s.params.rows) && decide (s.saveRow < s.params.rows) && decide (s.saveCol ≤ s.params.cols) &&
    decide (s.csrRow < s.params.rows) && decide (s.csrCol ≤ s.params.cols) && (s.word.short == !s.fullRegion) &&
    !s.curAttr.altcs && !s.saveAttr.altcs && !s.word.curinv &&
    (if s.word.esc then decide (s.acc.length < s.params.accCap) else s.acc.isEmpty) && accShape s.acc && s.memWf

theorem stateInv_of_check {s : State} (h : invCheck s = true) : StateInv s := by
  simp only [invCheck, Bool.and_eq_true, decide_eq_true_eq, Bool.not_eq_true', beq_iff_eq] at h
  obtain ⟨⟨⟨⟨⟨⟨⟨⟨⟨⟨⟨⟨⟨⟨⟨h1, h2⟩, h3⟩, h4⟩, h5⟩, h6⟩, h7⟩, h8⟩, h9⟩, h10⟩, h11⟩, h12⟩, h13⟩, h14⟩, h15⟩, h16⟩ := h
  refine ⟨h1, h2, h3, h4, h5, h6, h7, h8, h9, h10, h11, h12, h13, ?_, ?_, h15, h16⟩
  · intro he; simpa [he] using h14
  · intro he; simpa [he] using h14

theorem witness_ResetValues : (State.construct paramsT .rich).cellAt 2 4 = some (plain 0x20) ∧
    (State.construct paramsT .rich).cellAt 3 0 = none ∧ (State.construct paramsT .rich).cellAt 0 5 = none := by decide

theorem witness_ConstructionChecksParameters :
    (∀ p ∈ [paramsT, { paramsT with rows := 1, cols := 1, accCap := 2 }, { paramsT with keymapMinimal := [(.f1, [0x41])], keymapRich := [] }],
      sees (construct p .rich) (fun t => t.profile) = some .rich) ∧
    (∀ p ∈ [{ paramsT with rows := 0 }, { paramsT with cols := 0 }, { paramsT with accCap := 1 },
        { paramsT with keymapMinimal := [(.f1, [0x41]), (.f6, [])] }, { paramsT with keymapRich := [(.suspend, [])] }],
      sees (construct p .rich) (fun t => t.profile) = none) := by decide

theorem witness_HostRefusals :
    start.params.ok = true ∧ { start with calls := [.invalidBuffer, .byte 0x41] }.calls = render none ++ [.byte 0x41] ∧
    (call .reentrant start).calls = [.reentrant] ∧ isKnownKey (.unknown 3) = false ∧
    { paramsT with cols := 0 }.ok = false ∧ { paramsT with keymapRich := [(.home, [])] }.ok = false ∧
    { start with params := { paramsT with accCap := 1 } }.params.ok = false := by decide

theorem witness_IdleAndProfileSteps : start.params.ok = true ∧ start.calls = [] ∧
    (call (.selectProfile .rich) start).calls = [.selectProfile .rich] := by decide

theorem witness_StepRunsTheDecodedInstruction :
    (call (.byte 0x41) (opened [0x5B, 0x32] start)).calls = [.byte 0x41] ∧
    decode (.bytes (fetchText 0x41 (call (.byte 0x41) (opened [0x5B, 0x32] start)))) = .ok (.cuu [2]) ∧
    decode (.key { key := .left, pressed := true, mods := noMods }) = .ok (.keyLeft noMods) := by decide

theorem witness_DecodeInvertsEncode : ∀ i ∈ [Instr.print 0x20, .print 0x9A, .print 0x9C, .print 0xFF, .csi (some 0x5B), .csi (some 0x7B),
    .escUnrecognised 0x20, .escHashOther (some 0x39), .csiUnrecognised 0x7A, .sgrFg 30, .sgrFg 37, .sgrBg 40, .sgrBg 47,
    .sgrIgnored 50, .smIgnored 0, .rmIgnored 24, .cup [0, 1000], .keyReleased .null noMods], WellFormed i = true := by decide

theorem witness_DecoderIsSound : decode (.bytes [0x1B, 0x5B, 0x32, 0x41]) = .ok (.cuu [2]) ∧ StateInv (opened [0x5B, 0x32] gridG3) ∧
    StateInv gridG3 := ⟨by decide, stateInv_of_check (by decide), stateInv_of_check (by decide)⟩

theorem witness_ParameterTextIsRead :
    (∀ v ∈ ([0x40, 0x5A, 0x60, 0x7A] : List Byte), isFinal v = true) ∧
    (∀ e ∈ ([([0x3F], [[]], [0x3F]), ([0x3F], [[0x31, 0x30], [], [0x37]], []), ([], [[]], [0x3E]), ([], [[], []], [0x3F]),
        ([], [[0x39]], [0x24, 0x31])] : List (List Byte × List (List Byte) × List Byte)),
      (∀ f ∈ e.2.1, ∀ d ∈ f, isDigit d = true) ∧
      (e.1 = [0x3F] ∨ (e.1 = [] ∧ (e.2.1 ≠ [[]] ∨ e.2.2.head? ≠ some 0x3F))) ∧ e.2.1 ≠ [] ∧
      (∀ d ∈ e.2.2.head?, isParamByte d = false)) := by decide

theorem witness_ConstructedStatesMeetTheInvariant :
    ∀ p ∈ [Params.reference, paramsT, { paramsT with rows := 1, cols := 1, accCap := 2 }], p.ok = true := by decide

/-- States of the invariant that the other witnesses use. -/
theorem witness_StateInv : ∀ s ∈ [start, lineL5, gridG3, region 1 2 gridG3, region 1 2 (cursorAt 0 0 gridG3), opened [0x5B, 0x32] gridG3,
    cursorAt 0 4 gridG3, { gridG3 with saveRow := 2, saveCol := 5, csrRow := 2, csrCol := 5 }], StateInv s := by
  have h : ∀ s ∈ [start, lineL5, gridG3, region 1 2 gridG3, region 1 2 (cursorAt 0 0 gridG3), opened [0x5B, 0x32] gridG3,
    cursorAt 0 4 gridG3, { gridG3 with saveRow := 2, saveCol := 5, csrRow := 2, csrCol := 5 }], invCheck s = true := by decide
  exact fun s hs => stateInv_of_check (h s hs)

theorem witness_StepsKeepTheInvariant : StateInv (call (.byte 0x4D) (opened [] (cursorAt 0 0 gridG3))) ∧
    ∃ t, step (call (.byte 0x4D) (opened [] (cursorAt 0 0 gridG3))) = .next t := ⟨stateInv_of_check (by decide), _, rfl⟩

theorem witness_LawfulCallsComplete :
    ∀ c ∈ [HostCall.byte 0x00, .byte 0xFF, .key { key := .null, pressed := true, mods := noMods }, .selectProfile .rich],
      StateInv (call c gridG3) ∧ (call c gridG3).calls = [c] ∧ c.lawful = true := by
  have h : ∀ c ∈ [HostCall.byte 0x00, .byte 0xFF, .key { key := .null, pressed := true, mods := noMods }, .selectProfile .rich],
      invCheck (call c gridG3) = true ∧ (call c gridG3).calls = [c] ∧ c.lawful = true := by decide
  exact fun c hc => ⟨stateInv_of_check (h c hc).1, (h c hc).2⟩

theorem witness_StepIsByteStep : ∀ b ∈ ([0x00, 0x07, 0x1F, 0x20, 0x9B, 0xFF] : List Byte),
    (call (.byte b) (opened [0x5D] start)).params.ok = true ∧ (call (.byte b) (opened [0x5D] start)).calls = [.byte b] := by decide

theorem witness_StepIsKeyStep :
    (call (.key { key := .up, pressed := true, mods := noMods }) start).params.ok = true ∧
    (∃ t, step (call (.key { key := .up, pressed := true, mods := noMods }) start) = .next t ∧ t.out = [0x1B, 0x41]) :=
  ⟨by decide, _, rfl, rfl⟩

theorem witness_RenderIsByteSteps : start.params.ok = true ∧
    ∃ t, core.run 2 { start with calls := render (some [0x1B, 0x37]) } = .next t := ⟨by decide, _, rfl⟩

theorem witness_ChangedCellsAreReported :
    sees (onByte 0x5A lineL5) (fun t => (t.cellAt 0 4 == lineL5.cellAt 0 4, newEvents (call (.byte 0x5A) lineL5) t)) =
      some (false, [.invCell 0 4]) := by decide

theorem witness_OneWayModes : (∃ t, onCsi [0x33] 0x68 start = .next t) ∧
    sees (exec (.sm [3, 7]) (mode .colm gridG3)) (fun t => t.word.modes.awm) = some true ∧
    sees (exec (.sm [6, 7]) (mode .om gridG3)) (fun t => (t.word.modes.colm, t.row, t.col)) = some (false, 2, 5) ∧
    sees (exec (.sm [3, 6]) (mode .om gridG3)) (fun t => (t.word.modes.colm, t.row, t.col, t.sink.length)) = some (true, 0, 0, 16) ∧
    sees (exec (.sm [3, 6]) (mode .om (mode .colm gridG3))) cursorOf = some (2, 5, []) := by
  refine ⟨⟨_, rfl⟩, ?_⟩
  decide

theorem witness_StreamsGrowUnread : ∃ t, onByte 0x07 { start with sink := [.invScreen], out := [0x41] } = .next t := ⟨_, rfl⟩

theorem witness_InputPathWritesNoOutput : (call (.byte 0x41) start).calls = [.byte 0x41] ∧ (∃ t, onByte 0x41 start = .next t) ∧
    (∀ i ∈ [Instr.keySuspend noMods, .keyReleased .up noMods, .bel, .csi none],
      WellFormed i = true ∧ sees (exec i start) (fun _ => true) = some true) ∧
    isKeyInstr (.keyReleased .up noMods) = true ∧ isKeyInstr .bel = false := by
  refine ⟨rfl, ⟨_, rfl⟩, by decide, rfl, rfl⟩

theorem witness_GridWriters : ∀ i ∈ [Instr.cup [1, 1], .decstbm [2, 3], .sgr [31], .bel, .decrc],
    WellFormed i = true ∧ writesGrid i = false ∧ sees (exec i gridG3) (fun _ => true) = some true := by decide

theorem witness_CursorWriters : (∀ i ∈ [Instr.ed [2], .ich [], .decstbm [2, 3], .scp, .decaln],
      WellFormed i = true ∧ movesCursor i = false ∧ sees (exec i gridG3) (fun _ => true) = some true) ∧
    sees (exec (.sm [1]) gridG3) (fun t => (t.word.modes.colm, t.word.modes.om)) =
      some (gridG3.word.modes.colm, gridG3.word.modes.om) := by decide

theorem witness_RegionAndAttributeWriters :
    sees (exec (.decstbm [2, 3]) start) (fun t => decide (t.scrollMin ≠ start.scrollMin)) = some true ∧
    sees (exec (.sm [3]) (region 1 2 start)) (fun t => decide (t.word.short ≠ (region 1 2 start).word.short)) = some true ∧
    writesAttr .decaln = false ∧ sees (exec .decaln start) (fun _ => true) = some true := by decide

theorem witness_StateWordWriters :
    sees (exec .esc start) (fun t => t.word.esc) = some true ∧
    sees (exec (.cup []) (opened [0x5B] start)) parserOf = some (false, []) ∧
    sees (exec (.csi (some 0x31)) (opened (0x5B :: List.replicate 6 0x31) start)) parserOf = some (false, []) ∧
    sees (exec (.sgr [11]) start) (fun t => t.word.altcs) = some true ∧
    sees (exec (.sgr [10]) (altcsStart true)) (fun t => t.word.altcs) = some false ∧
    sees (exec .rm25 { start with word := { start.word with curinv := true } }) (fun t => t.word.curinv) = some false ∧
    sees (exec (.sm [25]) { start with word := { start.word with curinv := true } }) (fun t => t.word.curinv) = some false ∧
    sees (exec (.decstbm [2, 3]) start) (fun t => t.word.short) = some true ∧
    sees (exec (.decstbm []) (region 1 2 start)) (fun t => t.word.short) = some false ∧
    sees (exec (.sm [3]) (region 1 2 start)) (fun t => t.word.short) = some false ∧
    (∀ m ∈ [ModeBit.lnm, .ckm, .anm, .colm, .sclm, .scnm, .om, .awm, .arm, .inlm],
      sees (exec (.sm [modeNumber m]) start) (fun t => modeOf t.word.modes m) = some true ∧
      sees (exec (decodeSmParam (modeNumber m)) start) (fun t => modeOf t.word.modes m) = some true) ∧
    sees (exec .decsc { start with word := { start.word with altcs := true } }) (fun t => t.word.savedAltcs) = some true := by
  decide

theorem witness_SlotWriters :
    sees (exec .decsc (cursorAt 2 5 { start with curAttr := { normalAttr paramsT with bold := true } }))
      (fun t => (t.saveRow, t.saveCol, t.saveAttr == start.saveAttr)) = some (2, 5, false) ∧
    sees (exec .scp { gridG3 with params := { paramsT with sharedSaveSlot := true } }) (fun t => (t.saveRow, t.saveCol)) =
      some (2, 5) ∧
    sees (exec .scp gridG3) (fun t => (t.csrRow, t.csrCol)) = some (2, 5) := by decide

theorem witness_PendingWrapSources :
    StateInv (cursorAt 0 4 gridG3) ∧ StateInv { start with saveCol := 5 } ∧ StateInv { start with csrCol := 5 } ∧
    sees (exec (.print 0x41) (cursorAt 0 4 gridG3)) (fun t => t.col) = some 5 ∧
    sees (exec .decrc { start with saveCol := 5 }) (fun t => t.col) = some 5 ∧
    sees (exec .rcp { start with csrCol := 5 }) (fun t => t.col) = some 5 :=
  ⟨stateInv_of_check (by decide), stateInv_of_check (by decide), stateInv_of_check (by decide), by decide, by decide, by decide⟩

theorem witness_ControlBytesKeepTheSequence : ∀ b ∈ ([0x01, 0x07, 0x0D, 0x17, 0x1F] : List Byte),
    isControl b = true ∧ b ≠ 0x1B ∧ b ≠ 0x9B ∧ b ≠ 0x18 ∧ b ≠ 0x1A ∧ (opened [0x5B] start).endsOsc b = false ∧
    sees (onByte b (opened [0x5B] start)) (fun _ => true) = some true := by decide

theorem witness_RestoringSequence : ∀ k ∈ [3, 8], 3 ≤ ({ gridG3 with params := { paramsT with accCap := k } }).params.accCap ∧
    StateInv { gridG3 with params := { paramsT with accCap := k } } := by
  have h : ∀ k ∈ [3, 8], 3 ≤ ({ gridG3 with params := { paramsT with accCap := k } }).params.accCap ∧
    invCheck { gridG3 with params := { paramsT with accCap := k } } = true := by decide
  exact fun k hk => ⟨(h k hk).1, stateInv_of_check (h k hk).2⟩

theorem witness_OverlongSequencesAreDropped : StateInv gridG3 ∧ gridG3.word.esc = false ∧
    (∀ b ∈ List.replicate 7 (0x31 : Byte), isGraphic b = true ∧ isFinal b = false) ∧
    (List.replicate 7 (0x31 : Byte)).length + 1 = gridG3.params.accCap ∧
    (List.replicate 6 (0x31 : Byte)).length + 1 < gridG3.params.accCap :=
  ⟨stateInv_of_check (by decide), by decide, by decide, by decide, by decide⟩

theorem witness_OscIsSilent : StateInv gridG3 ∧ gridG3.word.esc = false ∧
    (∀ b ∈ ([0x61, 0x62, 0x63, 0x64, 0x65, 0xFF] : List Byte), isGraphic b = true) ∧
    ([0x61, 0x62, 0x63, 0x64, 0x65, 0xFF] : List Byte).length + 2 ≤ gridG3.params.accCap :=
  ⟨stateInv_of_check (by decide), by decide, by decide, by decide⟩

theorem witness_GridReadAfterWrite : gridG3.inGrid 0 0 = true ∧ gridG3.inGrid 2 4 = true ∧ gridG3.memWf = true ∧
    2 < paramsT.rows ∧ 4 < paramsT.cols ∧ (cursorAt 0 0 gridG3).params = gridG3.params ∧ (cursorAt 0 0 gridG3).memWf = true ∧
    (∀ r c, (cursorAt 0 0 gridG3).cellAt r c = gridG3.cellAt r c) :=
  ⟨by decide, by decide, by decide, by decide, by decide, rfl, by decide, fun _ _ => rfl⟩

theorem witness_NoEffectBytes : (call (.byte 0x1F) start).params.ok = true ∧ (call (.byte 0x1F) start).calls = [.byte 0x1F] := by
  decide

theorem witness_BellAndOscEnd : start.params.ok = true ∧ (call (.byte 0x07) start).calls = [.byte 0x07] ∧
    (opened [0x5D] start).word.esc = true ∧ (opened [0x5D] start).acc.head? = some 0x5D ∧ start.word.esc = false ∧
    (opened [0x5B] start).acc.head? ≠ some 0x5D := by decide

theorem witness_ParserBytes : start.params.ok = true ∧
    ∀ b ∈ ([0x9B, 0x1B, 0x18, 0x1A] : List Byte), (call (.byte b) (opened [0x5D] start)).calls = [.byte b] := by decide

theorem witness_CursorAndShiftControls : ∀ e ∈ [(0, 8), (7, 8), (8, 16), (80, 88)], 8 ∣ e.2 ∧ e.1 < e.2 ∧ e.2 ≤ e.1 + 8 := by decide

theorem witness_LineFeeds : StateInv gridG3 ∧ gridG3.row = gridG3.scrollMax ∧ StateInv lineL5 ∧ lineL5.row ≠ lineL5.scrollMax :=
  ⟨stateInv_of_check (by decide), by decide, stateInv_of_check (by decide), by decide⟩

theorem witness_IndexEscapes : StateInv (opened [] gridG3) ∧ (opened [] gridG3).row = (opened [] gridG3).scrollMax ∧
    (opened [] gridG3).row ≠ (opened [] gridG3).scrollMin ∧ StateInv (opened [] lineL5) ∧
    (opened [] lineL5).row ≠ (opened [] lineL5).scrollMax ∧ (opened [] lineL5).row = (opened [] lineL5).scrollMin :=
  ⟨stateInv_of_check (by decide), by decide, by decide, stateInv_of_check (by decide), by decide, by decide⟩

theorem witness_SaveAndRestore : (∃ t, runAll [.decsc, .decrc] gridG3 = .next t) ∧ (∃ t, runAll [.scp, .rcp] gridG3 = .next t) :=
  ⟨⟨_, rfl⟩, _, rfl⟩

theorem witness_OpenSequences : StateInv (opened [0x5B, 0x32] gridG3) ∧ (opened [0x5B, 0x32] gridG3).word.esc = true ∧
    (opened [0x5B, 0x32] gridG3).acc.length + 1 < paramsT.accCap ∧
    StateInv (opened (0x5B :: List.replicate 6 0x31) gridG3) ∧
    (opened (0x5B :: List.replicate 6 0x31) gridG3).acc.length + 1 = paramsT.accCap ∧
    isFinal 0x41 = true ∧ isFinal 0x7E = false :=
  ⟨stateInv_of_check (by decide), by decide, by decide, stateInv_of_check (by decide), by decide, by decide, by decide⟩

theorem witness_CsiFinalByte : isFinal 0x48 = true ∧ (opened [0x5B, 0x32] gridG3).word.esc = true ∧
    (opened [0x5B, 0x32] gridG3).acc = 0x5B :: [0x32] ∧
    sees (exec (decodeVerb (parseParams [0x32]) 0x48) (opened [0x5B, 0x32] gridG3)) (fun _ => true) = some true := by decide

theorem witness_PrintWrites : StateInv (cursorAt 2 4 gridG3) ∧ (cursorAt 2 4 gridG3).col < paramsT.cols ∧
    (true = ((altcsStart false).word.altcs && !(altcsStart false).params.altcsSet.contains 0x41)) ∧
    (true = (true && !(altcsStart false).params.altcsRejectWritesAttr)) ∧ StateInv (altcsStart false) :=
  ⟨stateInv_of_check (by decide), by decide, by decide, by decide, stateInv_of_check (by decide)⟩

theorem witness_PrintWraps : (∀ s ∈ [lineL5, mode .awm lineL5, mode .awm gridG3], invCheck s = true ∧ s.col = s.params.cols) ∧
    lineL5.word.modes.awm = false ∧ (mode .awm lineL5).word.modes.awm = true ∧ (mode .awm lineL5).row ≠ (mode .awm lineL5).scrollMax ∧
    (mode .awm gridG3).row = (mode .awm gridG3).scrollMax := by decide

theorem witness_VerticalMotions : ∀ e ∈ [([], 1), ([0], 1), ([9], 9)],
    e.2 = (if 1 ≤ e.1.getD 0 0 then e.1.getD 0 0 else 1) := by decide

theorem witness_HorizontalMotions : gridG3.row < gridG3.params.rows ∧
    ∀ e ∈ [([], 1), ([0], 1), ([9], 9)], e.2 = (if 1 ≤ e.1.getD 0 0 then e.1.getD 0 0 else 1) := by decide

theorem witness_Erases : ∀ s ∈ [start, gridG3], StateInv s ∧ min s.col (s.params.cols - 1) = if s.col = 5 then 4 else 0 := by
  have h : ∀ s ∈ [start, gridG3], invCheck s = true ∧ min s.col (s.params.cols - 1) = if s.col = 5 then 4 else 0 := by decide
  exact fun s hs => ⟨stateInv_of_check (h s hs).1, (h s hs).2⟩

theorem witness_InsertDeleteCharacters : StateInv gridG3 ∧ (1 : Nat) = (if 1 ≤ ([] : List Nat).getD 0 0 then ([] : List Nat).getD 0 0 else 1) ∧
    4 = min gridG3.col (gridG3.params.cols - 1) := ⟨stateInv_of_check (by decide), by decide, by decide⟩

theorem witness_InsertDeleteLines : StateInv (region 1 2 (cursorAt 0 0 gridG3)) ∧ (region 1 2 (cursorAt 0 0 gridG3)).row < 1 ∧
    StateInv (region 1 2 gridG3) ∧ 1 ≤ (region 1 2 gridG3).row ∧ (region 1 2 gridG3).row ≤ 2 ∧
    (9 : Nat) = (if 1 ≤ [9].getD 0 0 then [9].getD 0 0 else 1) :=
  ⟨stateInv_of_check (by decide), by decide, stateInv_of_check (by decide), by decide, by decide, by decide⟩

theorem witness_SetScrollRegion : ∀ e ∈ [([3, 2], 2, 1, false), ([2, 2], 1, 1, true), ([], 0, 2, true), ([0, 9], 0, 2, true)],
    e.2.1 = min (e.1.getD 0 0 - 1) (start.params.rows - 1) ∧
    e.2.2.1 = (if e.1 = [] then start.params.rows - 1 else min (e.1.getD 1 0 - 1) (start.params.rows - 1)) ∧
    (e.2.2.2 = true ↔ e.2.1 ≤ e.2.2.1) := by decide

theorem witness_SgrRunsItsParameters : [0, 91] ≠ ([] : List Nat) := by decide

theorem witness_SgrColours : (∀ p ∈ [30, 37], 30 ≤ p ∧ p ≤ 37) ∧ (∀ p ∈ [40, 47], 40 ≤ p ∧ p ≤ 47) ∧
    (∀ p ∈ [3, 29, 38, 48, 50, 1000], p ∉ [0, 1, 2, 4, 5, 7, 8, 10, 11, 22, 24, 25, 27, 28, 39, 49] ∧ ¬ (30 ≤ p ∧ p ≤ 37) ∧
      ¬ (40 ≤ p ∧ p ≤ 47)) := by decide

theorem witness_SetMode : StateInv (region 1 2 gridG3) ∧
    true = (([3, 6] : List Nat).contains 3 && !(region 1 2 gridG3).word.modes.colm) ∧
    true = (([3, 6] : List Nat).contains 6 && !(region 1 2 gridG3).word.modes.om) ∧
    StateInv (mode .om (mode .colm gridG3)) ∧ false = (([3, 6] : List Nat).contains 3 && !(mode .om (mode .colm gridG3)).word.modes.colm) :=
  ⟨stateInv_of_check (by decide), by decide, by decide, stateInv_of_check (by decide), by decide⟩

theorem witness_ResetModeAndParameters : ∀ p ∈ [0, 10, 19, 26], p ∉ [1, 2, 3, 4, 5, 6, 7, 8, 9, 20, 25] ∧ p ≠ 25 := by decide

theorem witness_CharacterAndArrowKeys : start.word.modes.anm = false ∧
    ((mode .anm start).word.modes.anm = true ∧ (mode .anm start).word.modes.ckm = false) ∧
    ((mode .ckm (mode .anm start)).word.modes.anm = true ∧ (mode .ckm (mode .anm start)).word.modes.ckm = true) := by decide

theorem witness_MappedKeys : start.profile = .minimal ∧ start.params.keymapMinimal = Params.reference.keymapMinimal ∧
    { start with profile := .rich }.profile = .rich ∧ start.params.keymapRich = Params.reference.keymapRich ∧
    start.params.ok = true ∧ start.keymap.lookup .f5 = some [0x1B, 0x5B, 0x5B, 0x45] := by decide

theorem witness_EncoderReadsTwoModes : start.params.ok = true ∧ isKnownKey .up = true ∧
    (∀ u ∈ [opened [0x5B] gridG3, { gridG3 with params := { paramsT with keymapRich := [] } },
        { gridG3 with profile := .rich, params := { paramsT with keymapRich := keymapMinimalReference } }],
      u.params.ok = true ∧ u.word.modes.anm = start.word.modes.anm ∧ u.word.modes.ckm = start.word.modes.ckm ∧
      u.keymap = start.keymap) := by decide

theorem witness_Aliases : start.params.ok = true ∧ (opened [0x5D] gridG3).params.ok = true := by decide

end Sys2Proof.Tests
end

section
/-! SUPPORT. The obligations about 00_scope.md: the construction of an instance. -/

namespace Sys2Proof.Machine

/-- Settles O2: `construct` tests `Params.ok`, and `Params.ok_iff` spells that test out as the ranges of R8 with non-empty
keymap strings. -/
theorem constructionChecksParameters : Obligations.ConstructionChecksParameters := by
  intro p k
  unfold construct
  exact if_congr Params.ok_iff rfl rfl

end Sys2Proof.Machine
end

section
/-! SUPPORT. Every instruction keeps the ranges of 10_state.md R38: its operation does (Laws/Keeps), and `Cancel()` and the
append touch the parser only. -/

namespace Sys2Proof.Machine

/-- The parameter list and the verb of a CSI command (30_encoding.md R85). -/
def commandOf : Instr → Option (List Nat × Byte)
  | .sgr ps => some (ps, 0x6D)
  | .sm ps => some (ps, 0x68)
  | .rm ps => some (ps, 0x6C)
  | .ed ps => some (ps, 0x4A)
  | .cup ps => some (ps, 0x48)
  | .hvp ps => some (ps, 0x66)
  | .cuu ps => some (ps, 0x41)
  | .cud ps => some (ps, 0x42)
  | .cuf ps => some (ps, 0x43)
  | .cub ps => some (ps, 0x44)
  | .cnl ps => some (ps, 0x45)
  | .cpl ps => some (ps, 0x46)
  | .cha ps => some (ps, 0x47)
  | .vpr ps => some (ps, 0x65)
  | .hpr ps => some (ps, 0x61)
  | .vpa ps => some (ps, 0x64)
  | .hpa ps => some (ps, 0x60)
  | .el ps => some (ps, 0x4B)
  | .ich ps => some (ps, 0x40)
  | .dch ps => some (ps, 0x50)
  | .il ps => some (ps, 0x4C)
  | .dl ps => some (ps, 0x4D)
  | .ech ps => some (ps, 0x58)
  | .decstbm ps => some (ps, 0x72)
  | .scp => some ([], 0x73)
  | .rcp => some ([], 0x75)
  | _ => none

/-- A CSI command is its verb's operation, and then `Cancel()` (41_escape.md R141). -/
theorem exec_command {i : Instr} {ps : List Nat} {v : Byte} (h : commandOf i = some (ps, v)) :
    exec i = fun s => thenCancel (csiVerb ps v s) := by
  unfold commandOf at h
  split at h <;> cases h <;> rfl

theorem keeps_idle : KeepsRanges .next :=
  keeps_pure fun _ h => h

/-- A cursor move within the row (40_parser_control.md R107, R108, R112). -/
theorem keeps_column (c : State → Nat) (hc : ∀ s, RangeInv s → c s ≤ s.params.cols) :
    KeepsRanges (fun s => .next ((s.setCursor s.row (c s)).emit .invCursor)) :=
  keeps_pure fun s h => rangeInv_emit (rangeInv_cursor h h.rowLt (hc s h))

theorem keeps_curAttr (a : State → Attr) (ha : ∀ s, RangeInv s → (a s).altcs = false) :
    KeepsRanges (fun s => .next (s.setCurAttr (a s))) :=
  keeps_pure fun s h => rangeInv_curAttr h (ha s h)

theorem keeps_altcs (b : Bool) : KeepsRanges (fun s => .next (s.setAltcs b)) :=
  keeps_pure fun _ h => rangeInv_altcs h

theorem keeps_setMode (m : ModeBit) : KeepsRanges (fun s => .next (s.setMode m)) :=
  keeps_pure fun _ h => rangeInv_modes h

theorem keeps_clearCurinv : KeepsRanges (fun s => .next (s.setCurinv false)) :=
  keeps_pure fun _ h => rangeInv_curinv h

theorem keeps_outBytes (bs : State → List Byte) : KeepsRanges (fun s => .next (s.outBytes (bs s))) :=
  keeps_pure fun _ h => rangeInv_out h

theorem keeps_saveCursor : KeepsRanges (fun s => .next (saveCursor s)) :=
  keeps_pure fun _ h => rangeInv_save h h.rowLt h.colLe h.curAltcs

theorem keeps_restoreCursor : KeepsRanges (fun s => .next (restoreCursor s)) :=
  keeps_pure fun _ h =>
    rangeInv_emit (rangeInv_altcs (rangeInv_curAttr (rangeInv_cursor h h.saveRowLt h.saveColLe) h.saveAltcs))

theorem keeps_alignmentFill : KeepsRanges (fun s => .next (alignmentFill s)) :=
  keeps_pure fun _ h => rangeInv_emit (rangeInv_fill h)

theorem keeps_scp : KeepsRanges scp := by
  refine keeps_pure fun _ h => ?_
  split
  · exact rangeInv_savePos h h.rowLt h.colLe
  · exact rangeInv_csr h h.rowLt h.colLe

theorem keeps_rcp : KeepsRanges rcp := by
  refine keeps_pure fun _ h => rangeInv_emit ?_
  split
  · exact rangeInv_cursor h h.saveRowLt h.saveColLe
  · exact rangeInv_cursor h h.csrRowLt h.csrColLe

theorem keeps_cursorPosition (ps : List Nat) : KeepsRanges (fun s => .next (cursorPosition ps s)) :=
  keeps_pure fun _ h => rangeInv_cup h

theorem keeps_nel : KeepsRanges (fun s => index (s.setCursor s.row 0)) :=
  fun _ h => keeps_index _ (rangeInv_cursor h h.rowLt (Nat.zero_le _))

theorem keeps_endSequence : KeepsRanges (fun s => .next (cancel s)) :=
  keeps_pure fun _ h => rangeInv_cancel h

theorem keeps_accumulate (b : Byte) : KeepsRanges (fun s => .next (accumulate b s)) :=
  keeps_pure fun _ h => rangeInv_acc h

theorem keeps_csiVerb (ps : List Nat) (v : Byte) : KeepsRanges (csiVerb ps v) := by
  intro s h
  unfold csiVerb
  split
  · exact keeps_sgr ps s h
  · exact keeps_walkModes keeps_smParam ps s h
  · exact keeps_walkModes keeps_rmParam ps s h
  · exact keeps_ed ps s h
  iterate 2 exact keeps_cursorPosition ps s h
  iterate 11 exact ⟨_, rfl, rangeInv_cursorTo h⟩
  · exact keeps_el ps s h
  iterate 2 exact keeps_tail h
  · exact keeps_il ps s h
  · exact keeps_dl ps s h
  · exact keeps_ech ps s h
  · exact keeps_decstbm ps s h
  · exact keeps_scp s h
  · exact keeps_rcp s h
  · exact ⟨s, rfl, h⟩

theorem keeps_csiDispatch (text : List Byte) : KeepsRanges (csiDispatch text) := by
  intro s h
  unfold csiDispatch
  split
  · exact ⟨s, rfl, h⟩
  · exact keeps_csiVerb _ _ s h

/-- The CSI row runs its command on a final-class byte and appends any other. -/
theorem keeps_execCsi (o : Option Byte) : KeepsRanges (execCsi o) := by
  intro s h
  cases o with
  | none => exact keeps_accumulate 0x5B s h
  | some v => exact keeps_ite (keeps_cancel (keeps_csiDispatch _) s h) (keeps_accumulate v s h)

theorem keeps_command {i : Instr} {ps : List Nat} {v : Byte} (h : commandOf i = some (ps, v)) : KeepsRanges (exec i) :=
  exec_command h ▸ keeps_cancel (keeps_csiVerb ps v)

/-- Every instruction answers a next state, and keeps the ranges. -/
theorem exec_keepsRanges : ∀ i : Instr, KeepsRanges (exec i)
  | .nul | .c0Nop01 | .c0Nop02 | .c0Nop03 | .c0Nop04 | .c0Nop05 | .c0Nop06 | .c0Nop10 | .c0Nop11 | .c0Nop12 | .c0Nop13
  | .c0Nop14 | .c0Nop15 | .c0Nop16 | .c0Nop17 | .c0Nop19 | .c0Nop1C | .c0Nop1D | .c0Nop1E | .c0Nop1F
  | .sgrIgnored _ | .smIgnored _ | .rmIgnored _ | .keyNull _ | .keyReleased _ _ => keeps_idle
  | .bel => keeps_pure fun _ h => rangeInv_emit h
  | .bs => keeps_column _ fun s h => by have := h.colLe; split <;> omega
  | .ht => keeps_column _ fun s _ => by omega
  | .cr => keeps_column _ fun s _ => Nat.zero_le _
  | .lf | .vt | .ff => keeps_lineFeed
  | .so | .sgrAltcs => keeps_altcs true
  | .si | .sgrPrimary => keeps_altcs false
  | .can | .sub | .oscEnd | .escHashOther (some _) | .scsG0 (some _) | .scsG1 (some _) | .escUnrecognised _
  | .csiUnrecognised _ => keeps_endSequence
  | .esc | .csi8 => keeps_pure fun _ h => rangeInv_parser h
  | .escHashOther none | .scsG0 none | .scsG1 none | .osc none | .osc (some _) => keeps_accumulate _
  | .csi o => keeps_execCsi o
  | .print b => keeps_putChar b
  | .ind => keeps_cancel keeps_index
  | .nel => keeps_cancel keeps_nel
  | .ri => keeps_cancel keeps_reverseIndex
  | .decsc => keeps_cancel keeps_saveCursor
  | .decrc => keeps_cancel keeps_restoreCursor
  | .decaln => keeps_cancel keeps_alignmentFill
  | .sgr _ | .sm _ | .rm _ | .ed _ | .cup _ | .hvp _ | .cuu _ | .cud _ | .cuf _ | .cub _ | .cnl _ | .cpl _ | .cha _ | .vpr _
  | .hpr _ | .vpa _ | .hpa _ | .el _ | .ich _ | .dch _ | .il _ | .dl _ | .ech _ | .decstbm _ | .scp | .rcp =>
    keeps_command rfl
  | .sgr0 => keeps_curAttr _ fun _ _ => rfl
  | .sgrBold _ | .sgrBlink | .sgrReverse _ | .sgrInvisible | .sgrBoldOff _ | .sgrBlinkOff | .sgrInvisibleOff | .sgrFg _
  | .sgrFgDefault | .sgrBg _ | .sgrBgDefault => keeps_curAttr _ fun _ h => h.curAltcs
  | .smCkm | .smAnm | .smColm | .smSclm | .smScnm | .smOm | .smAwm | .smArm | .smInlm | .smLnm => keeps_setMode _
  | .sm25 | .rm25 => keeps_clearCurinv
  | .keyChar _ _ | .keyUp _ | .keyDown _ | .keyRight _ | .keyLeft _ | .keyF1 _ | .keyF2 _ | .keyF3 _ | .keyF4 _ | .keyF5 _
  | .keyF6 _ | .keyF7 _ | .keyF8 _ | .keyF9 _ | .keyF10 _ | .keyF11 _ | .keyF12 _ | .keyInsert _ | .keyDelete _ | .keyHome _
  | .keyEnd _ | .keyPageUp _ | .keyPageDown _ | .keySuspend _ => keeps_outBytes _

end Sys2Proof.Machine
end

section
/-! SUPPORT. Reporting (10_state.md R34, R35): every operation only appends to `SINK`, and the events it appends cover the
cells that it changes. -/

namespace Sys2Proof.Machine

/-- From `s` to `t` the sink grew, and by events that cover the changed cells. -/
structure Reports (s t : State) : Prop where
  sink : s.sink <+: t.sink
  covered : Covered s t

theorem Reports.of_append {s t : State} {es : List SinkEvent} (hs : t.sink = s.sink ++ es)
    (hc : ∀ r c, t.cellAt r c ≠ s.cellAt r c → .invCell r c ∈ es ∨ .invScreen ∈ es) : Reports s t := by
  have hnew : newEvents s t = es := by rw [newEvents, hs, List.drop_left]
  exact ⟨hs ▸ List.prefix_append _ _, fun r c h => hnew.symm ▸ hc r c h⟩

/-- What leaves the grid alone may append any events. -/
theorem Reports.of_grid {s t : State} (hp : t.params = s.params) (hg : t.grid = s.grid) (hs : s.sink <+: t.sink) :
    Reports s t :=
  ⟨hs, fun r c h => absurd (State.cellAt_congr hp hg r c) h⟩

theorem Reports.refl (s : State) : Reports s s :=
  .of_grid rfl rfl List.prefix_rfl

/-- A whole-screen event covers every cell. -/
theorem Reports.of_invScreen {s t : State} (hs : t.sink = s.sink ++ [.invScreen]) : Reports s t :=
  .of_append hs fun _ _ _ => .inr (List.mem_singleton_self _)

/-- The region shifts report themselves by one whole-screen event (20_memory.md R57, R58). -/
theorem reports_then_invScreen {o : Out} {s t : State} (ho : ∀ m, o = .next m → m = { s with grid := m.grid })
    (h : andThen o (fun m => .next (m.emit .invScreen)) = .next t) : Reports s t := by
  obtain ⟨m, hm, ht⟩ := andThen_eq_next.mp h
  cases ht
  rw [ho m hm]
  exact .of_invScreen rfl

theorem Reports.trans {s m t : State} (h1 : Reports s m) (h2 : Reports m t) : Reports s t := by
  obtain ⟨es, hes⟩ := h1.sink
  obtain ⟨fs, hfs⟩ := h2.sink
  have hsm : newEvents s m = es := by rw [newEvents, ← hes, List.drop_left]
  have hmt : newEvents m t = fs := by rw [newEvents, ← hfs, List.drop_left]
  refine .of_append (es := es ++ fs) (by rw [← hfs, ← hes, List.append_assoc]) fun r c h => ?_
  simp only [List.mem_append]
  by_cases hm : m.cellAt r c = s.cellAt r c
  · have := h2.covered r c (hm ▸ h)
    rw [hmt] at this
    tauto
  · have := h1.covered r c hm
    rw [hsm] at this
    tauto

theorem reports_index {s t : State} (h : index s = .next t) : Reports s t := by
  unfold index at h
  split at h
  · exact reports_then_invScreen (fun _ => shiftUp_frame) h
  · cases h
    exact .of_grid rfl rfl (List.prefix_append _ _)

theorem reports_reverseIndex {s t : State} (h : reverseIndex s = .next t) : Reports s t := by
  unfold reverseIndex at h
  split at h
  · exact reports_then_invScreen (fun _ => shiftDown_frame) h
  · cases h
    exact .of_grid rfl rfl (List.prefix_append _ _)

theorem reports_il {ps : List Nat} {s t : State} (h : il ps s = .next t) : Reports s t := by
  unfold il at h
  split at h
  · exact reports_then_invScreen (fun _ => shiftDown_frame) h
  · cases h
    exact .refl s

theorem reports_dl {ps : List Nat} {s t : State} (h : dl ps s = .next t) : Reports s t := by
  unfold dl at h
  split at h
  · exact reports_then_invScreen (fun _ => shiftUp_frame) h
  · cases h
    exact .refl s

/-- A cell is reported among the events of a range of row-major indices that holds its own. -/
theorem invCell_mem_cellEvents (s : State) {r c lo hi : Nat} (hc : c < s.params.cols) (hlo : lo ≤ s.index r c)
    (hhi : s.index r c < hi) : .invCell r c ∈ (List.range' lo (hi - lo)).map s.cellEvent := by
  refine List.mem_map.mpr ⟨s.index r c, List.mem_range'_1.mpr ⟨hlo, by omega⟩, ?_⟩
  rw [State.cellEvent, s.index_div hc, s.index_mod hc]

theorem reports_eraseCells {r1 c1 r2 c2 : Nat} {s t : State} (h : eraseCells r1 c1 r2 c2 s = .next t) : Reports s t := by
  obtain ⟨hin1, hin2⟩ := eraseCells_inv h
  obtain ⟨u, hu, hframe, -, hcells⟩ := eraseCells_next s hin1 hin2
  obtain rfl := next_inj (h.symm.trans hu)
  refine .of_append (congrArg State.sink hframe) fun r c hne => .inl ?_
  rw [hcells] at hne
  split at hne
  · next hrange =>
    obtain ⟨hin, hlo, hhi⟩ := hrange
    have hc := ((s.inGrid_iff r c).mp hin).2
    exact invCell_mem_cellEvents s hc ((s.index_le_iff ((s.inGrid_iff r1 c1).mp hin1).2 hc).mpr hlo)
      (Nat.lt_succ_of_le ((s.index_le_iff hc ((s.inGrid_iff r2 c2).mp hin2).2).mpr hhi))
  · exact absurd rfl hne

theorem reports_rewriteTail {f : Nat → Cell} {s t : State} (h : rewriteTail f s = .next t) : Reports s t := by
  obtain ⟨u, hu, hframe, -, hcells⟩ := rewriteTail_next s f (rewriteTail_inv h)
  obtain rfl := next_inj (h.symm.trans hu)
  refine .of_append (congrArg State.sink hframe) fun r c hne => .inl ?_
  rw [hcells] at hne
  split at hne
  · next htail =>
    obtain ⟨hin, rfl, hcc⟩ := htail
    have hc := ((s.inGrid_iff _ c).mp hin).2
    exact List.mem_map.mpr ⟨c, List.mem_range'_1.mpr ⟨hcc, by omega⟩, rfl⟩
  · exact absurd rfl hne

theorem reports_writeAtCursor {v : Cell} {s t : State} (h : writeAtCursor v s = .next t) : Reports s t := by
  obtain ⟨u, hu, hframe, -, hcells⟩ := writeAtCursor_next s v (writeAtCursor_inv h)
  obtain rfl := next_inj (h.symm.trans hu)
  refine .of_append (congrArg State.sink hframe) fun r c hne => .inl ?_
  rw [hcells] at hne
  split at hne
  · next hcell =>
    obtain ⟨rfl, rfl⟩ := hcell
    exact List.mem_singleton_self _
  · exact absurd rfl hne

theorem reports_writeGlyph {b : Byte} {s t : State} (h : writeGlyph b s = .next t) : Reports s t := by
  unfold writeGlyph at h
  split at h
  · split at h
    · exact reports_writeAtCursor h
    · cases h
      exact .refl s
  · exact reports_writeAtCursor h

theorem reports_setCursor (r c : Nat) (s : State) : Reports s (s.setCursor r c) :=
  .of_grid rfl rfl List.prefix_rfl

theorem reports_resolveWrap {s t : State} (h : resolveWrap s = .next t) : Reports s t := by
  unfold resolveWrap at h
  split at h
  · split at h
    · exact (reports_setCursor _ _ s).trans (reports_index h)
    · cases h
      exact reports_setCursor _ _ s
  · cases h
    exact .refl s

theorem reports_putChar {b : Byte} {s t : State} (h : putChar b s = .next t) : Reports s t := by
  obtain ⟨u, hu, ht⟩ := andThen_eq_next.mp h
  obtain ⟨m, hm, hmu⟩ := andThen_eq_next.mp hu
  cases ht
  exact ((reports_resolveWrap hm).trans (reports_writeGlyph hmu)).trans (reports_setCursor _ _ u)

theorem reports_lineFeed {s t : State} (h : lineFeed s = .next t) : Reports s t := by
  unfold lineFeed at h
  split at h
  · exact (reports_setCursor _ _ s).trans (reports_index h)
  · exact reports_index h

theorem reports_colmEffect {s t : State} (h : colmEffect s = .next t) : Reports s t :=
  .trans (m := (((s.setCursor 0 0).emit .invCursor).setRegion 0 (s.params.rows - 1)).setShort false)
    (.of_grid rfl rfl (List.prefix_append _ _)) (reports_eraseCells h)

theorem reports_ed {ps : List Nat} {s t : State} (h : ed ps s = .next t) : Reports s t := by
  unfold ed at h
  split at h
  · exact reports_eraseCells h
  · split at h <;> exact reports_eraseCells h

theorem reports_el {ps : List Nat} {s t : State} (h : el ps s = .next t) : Reports s t := by
  unfold el at h
  split at h
  · exact reports_eraseCells h
  · split at h <;> exact reports_eraseCells h

end Sys2Proof.Machine
end

section
/-! SUPPORT. What an instruction can do, said once (10_state.md R24 to R34): `exec_effect` reads every completed instruction
as one `Effect` on the registers, the grid and the streams, followed by one `ParserEffect` on `ESC` and the accumulator. -/

namespace Sys2Proof.Machine

/-! ### Effects -/

/-- The mode-change hook with delta `d` (45_modes.md R224 to R226): COLM rewrites the region and clears SHORT, and each side
effect moves the cursor to column 0. -/
structure HookEffect (d : StateWord) (s t : State) : Prop where
  frame : t = { s with grid := t.grid, row := t.row, col := t.col, scrollMin := t.scrollMin, scrollMax := t.scrollMax,
                       sink := t.sink, word := { s.word with short := t.word.short } }
  region : (t.scrollMin = s.scrollMin ∧ t.scrollMax = s.scrollMax ∧ t.word.short = s.word.short) ∨
    (d.modes.colm = true ∧ t.word.short = false)
  col : t.col ≤ s.col
  reports : Reports s t

/-- What instruction `i` does from `s`, the parser aside, by the registers it writes. -/
inductive Effect (s : State) : Instr → State → Prop where
  /-- only the streams, if anything -/
  | streams {i : Instr} {es : List SinkEvent} {bs : List Byte} :
      Effect s i { s with sink := s.sink ++ es, out := s.out ++ bs }
  /-- the cursor, never onto the pending-wrap column -/
  | cursor {i : Instr} {r c : Nat} {es : List SinkEvent} (hcol : c ≤ max s.col (s.params.cols - 1)) :
      Effect s i { s with row := r, col := c, sink := s.sink ++ es }
  /-- the grid, and the cursor, never onto the pending-wrap column -/
  | edit {i : Instr} {g : Memory} {r c : Nat} {es : List SinkEvent} (hw : writesGrid i = true) (hcol : c ≤ s.col)
      (hr : Reports s { s with grid := g, row := r, col := c, sink := es }) :
      Effect s i { s with grid := g, row := r, col := c, sink := es }
  /-- Put-Char -/
  | print {b : Byte} {g : Memory} {r c : Nat} {es : List SinkEvent}
      (hcol : s.col ≠ s.params.cols → c = if s.col + 1 = s.params.cols ∧ b = 0x20 then s.params.cols - 1 else s.col + 1)
      (hr : Reports s { s with grid := g, row := r, col := c, sink := es }) :
      Effect s (.print b) { s with grid := g, row := r, col := c, sink := es }
  /-- `CUR_ATTR` -/
  | attr {i : Instr} {a : Attr} (hw : writesAttr i = true) : Effect s i (s.setCurAttr a)
  /-- `STATE.ALTCS`, by an instruction of its own -/
  | altcs {i : Instr} {b : Bool} (hset : b = true → i = .so ∨ i = .sgrAltcs)
      (hclear : b = false → i = .si ∨ i = .sgrPrimary) : Effect s i (s.setAltcs b)
  /-- SGR -/
  | sgr {ps : List Nat} {a : Attr} {b : Bool} (hset : b = true → s.word.altcs = true ∨ 11 ∈ ps)
      (hclear : b = false → s.word.altcs = false ∨ 10 ∈ ps) : Effect s (.sgr ps) ((s.setCurAttr a).setAltcs b)
  /-- a parameter of SM that sets a mode bit -/
  | setMode (m : ModeBit) : Effect s (decodeSmParam (modeNumber m)) (s.setMode m)
  /-- value 25 of SM or RM -/
  | clearCurinv {i : Instr} (hi : i = .sm25 ∨ i = .rm25) : Effect s i (s.setCurinv false)
  /-- RM -/
  | resetModes (ps : List Nat) : Effect s (.rm ps) (s.setCurinv (s.word.curinv && !ps.contains 25))
  /-- SM: its parameters, then the hook -/
  | setModes {ps : List Nat} {m t : State} (hm : SmFrame ps s m) (ht : HookEffect (StateWord.xor s.word m.word) m t) :
      Effect s (.sm ps) t
  /-- DECSC -/
  | save : Effect s .decsc (saveCursor s)
  /-- DECRC -/
  | restore : Effect s .decrc (restoreCursor s)
  /-- SCP with a shared slot -/
  | savePos (h : s.params.sharedSaveSlot = true) : Effect s .scp (s.setSavePos s.row s.col)
  /-- SCP with a slot of its own -/
  | saveCsr (h : s.params.sharedSaveSlot = false) : Effect s .scp (s.setCsr s.row s.col)
  /-- RCP with a shared slot -/
  | restorePos (h : s.params.sharedSaveSlot = true) : Effect s .rcp ((s.setCursor s.saveRow s.saveCol).emit .invCursor)
  /-- RCP with a slot of its own -/
  | restoreCsr (h : s.params.sharedSaveSlot = false) : Effect s .rcp ((s.setCursor s.csrRow s.csrCol).emit .invCursor)
  /-- DECSTBM -/
  | region {ps : List Nat} {a b : Nat} {short : Bool} : Effect s (.decstbm ps) ((s.setRegion a b).setShort short)

/-- The byte that an open form appends to the accumulator (40_parser_control.md R104; 41_escape.md R138 to R142). -/
def appendedByte : Instr → Option Byte
  | .escHashOther none => some 0x23
  | .scsG0 none => some 0x28
  | .scsG1 none => some 0x29
  | .csi none => some 0x5B
  | .csi (some b) => some b
  | .osc none => some 0x5D
  | .osc (some b) => some b
  | _ => none

/-- What instruction `i` does to `ESC` and the accumulator, `m` holding the rest of the next state. -/
inductive ParserEffect (m : State) : Instr → State → Prop where
  | keeps {i : Instr} : ParserEffect m i m
  | ends {i : Instr} (hi : endsSequence i = true) : ParserEffect m i (cancel m)
  | startsEsc : ParserEffect m .esc (m.setParser true [])
  | startsCsi : ParserEffect m .csi8 (m.setParser true [0x5B])
  | appends {i : Instr} {b : Byte} (hb : appendedByte i = some b) : ParserEffect m i (accumulate b m)

/-- The parser's effect writes `ESC` and the accumulator only. -/
theorem ParserEffect.frame {m t : State} {i : Instr} (h : ParserEffect m i t) : t = m.setParser t.word.esc t.acc := by
  cases h with
  | keeps | ends | startsEsc | startsCsi => rfl
  | appends hb => exact accumulate_frame _ m

/-! ### The operations -/

theorem xor_colm_om {w v : StateWord} (h : v.modes = w.modes) :
    (StateWord.xor w v).modes.colm = false ∧ (StateWord.xor w v).modes.om = false := by
  simp [StateWord.xor, modesXor, h]

theorem HookEffect.refl (d : StateWord) (s : State) : HookEffect d s s :=
  ⟨rfl, .inl ⟨rfl, rfl, rfl⟩, le_rfl, .refl s⟩

theorem HookEffect.trans {d : StateWord} {s m t : State} (h1 : HookEffect d s m) (h2 : HookEffect d m t) :
    HookEffect d s t where
  frame := by
    conv_lhs => rw [h2.frame, h1.frame]
  region := by
    rcases h2.region with ⟨hmin, hmax, hshort⟩ | h
    · rw [hmin, hmax, hshort]
      exact h1.region
    · exact .inr h
  col := h2.col.trans h1.col
  reports := h1.reports.trans h2.reports

theorem colmEffect_hook {d : StateWord} {s t : State} (hd : d.modes.colm = true) (h : colmEffect s = .next t) :
    HookEffect d s t := by
  have hframe := colmEffect_frame h
  refine ⟨?_, .inr ⟨hd, ?_⟩, ?_, reports_colmEffect h⟩ <;> rw [hframe]
  exact Nat.zero_le _

theorem omEffect_hook {d : StateWord} {s t : State} (h : omEffect s = .next t) : HookEffect d s t := by
  cases h
  exact ⟨rfl, .inl ⟨rfl, rfl, rfl⟩, Nat.zero_le _, .of_grid rfl rfl (List.prefix_append _ _)⟩

theorem modeHook_effect {d : StateWord} {s t : State} (h : modeHook d s = .next t) : HookEffect d s t := by
  obtain ⟨m, hm, ht⟩ := andThen_eq_next.mp h
  have h1 : HookEffect d s m := by
    split at hm
    · next hd => exact colmEffect_hook hd hm
    · cases hm
      exact .refl d _
  have h2 : HookEffect d m t := by
    split at ht
    · exact omEffect_hook ht
    · cases ht
      exact .refl d _
  exact h1.trans h2

theorem sm_effect {ps : List Nat} {s t : State} (h : sm ps s = .next t) : Effect s (.sm ps) t := by
  obtain ⟨m, hm, hframe⟩ := walk_sm_frame ps s
  obtain ⟨u, hu, ht⟩ := andThen_eq_next.mp h
  obtain rfl := next_inj (hu.symm.trans hm)
  exact .setModes hframe (modeHook_effect ht)

theorem rm_effect {ps : List Nat} {s t : State} (h : rm ps s = .next t) : Effect s (.rm ps) t := by
  obtain ⟨m, hm, ht⟩ := andThen_eq_next.mp h
  rw [walk_rm_eq] at hm
  cases hm
  have hnone := xor_colm_om (w := s.word) (v := { s.word with curinv := s.word.curinv && !ps.contains 25 }) rfl
  rw [modeHook_none hnone.1 hnone.2] at ht
  cases ht
  exact .resetModes ps

/-- Case split on a conditional outcome. -/
theorem ite_next_elim {c p : Prop} [Decidable c] {x y : Out} {t : State} (h : (if c then x else y) = .next t)
    (hx : c → x = .next t → p) (hy : y = .next t → p) : p := by
  split at h
  · exact hx ‹c› h
  · exact hy h

/-- Of the parameters of SGR only 10 and 11 write `STATE.ALTCS` (44_sgr.md R206, R207). -/
theorem sgrParam_altcs {p : Nat} {s t : State} (h : sgrParam p s = .next t) :
    t.word.altcs = s.word.altcs ∨ (p = 11 ∧ t.word.altcs = true) ∨ (p = 10 ∧ t.word.altcs = false) := by
  unfold sgrParam at h
  iterate 5 refine ite_next_elim h (fun _ h => by cases h; exact .inl rfl) fun h => ?_
  refine ite_next_elim h (fun hp h => by cases h; exact .inr (.inr ⟨hp, rfl⟩)) fun h => ?_
  refine ite_next_elim h (fun hp h => by cases h; exact .inr (.inl ⟨hp, rfl⟩)) fun h => ?_
  iterate 7 refine ite_next_elim h (fun _ h => by cases h; exact .inl rfl) fun h => ?_
  cases h
  exact .inl rfl

theorem walk_sgr_altcs (ps : List Nat) : ∀ {s t : State}, walk sgrParam ps s = .next t →
    (t.word.altcs = true → s.word.altcs = true ∨ 11 ∈ ps) ∧
    (t.word.altcs = false → s.word.altcs = false ∨ 10 ∈ ps) := by
  induction ps with
  | nil =>
    intro s t h
    cases h
    exact ⟨.inl, .inl⟩
  | cons p rest ih =>
    intro s t h
    obtain ⟨m, hm, ht⟩ := andThen_eq_next.mp h
    obtain ⟨hset, hclear⟩ := ih ht
    rcases sgrParam_altcs hm with he | ⟨rfl, he⟩ | ⟨rfl, he⟩
    · rw [he] at hset hclear
      exact ⟨fun h => (hset h).imp_right (List.mem_cons_of_mem _), fun h => (hclear h).imp_right (List.mem_cons_of_mem _)⟩
    · exact ⟨fun _ => .inr List.mem_cons_self,
        fun h => .inr (List.mem_cons_of_mem _ ((hclear h).resolve_left (by simp [he])))⟩
    · exact ⟨fun h => .inr (List.mem_cons_of_mem _ ((hset h).resolve_left (by simp [he]))),
        fun _ => .inr List.mem_cons_self⟩

theorem sgr_effect {ps : List Nat} {s t : State} (h : sgr ps s = .next t) : Effect s (.sgr ps) t := by
  obtain ⟨u, hu, hframe⟩ := sgr_frame ps s
  obtain rfl := next_inj (h.symm.trans hu)
  have hbits : (t.word.altcs = true → s.word.altcs = true ∨ 11 ∈ ps) ∧
      (t.word.altcs = false → s.word.altcs = false ∨ 10 ∈ ps) := by
    unfold sgr at h
    split at h
    · cases h
      exact ⟨.inl, .inl⟩
    · exact walk_sgr_altcs ps h
  have heffect := Effect.sgr (a := t.curAttr) hbits.1 hbits.2
  rwa [hframe]

theorem putChar_effect {b : Byte} {s t : State} (h : putChar b s = .next t) : Effect s (.print b) t := by
  have hframe := putChar_frame h
  have hr := reports_putChar h
  rw [hframe] at hr ⊢
  refine .print (fun hne => ?_) hr
  obtain ⟨u, hu, ht⟩ := andThen_eq_next.mp h
  rw [resolveWrap, if_neg hne, andThen_next] at hu
  have hcol := congrArg State.col (writeGlyph_frame hu)
  have hparams := congrArg State.params (writeGlyph_frame hu)
  cases ht
  simp only at hcol hparams
  simp only [advance, State.setCursor_col, hcol, hparams]

/-- Nothing at all. -/
theorem Effect.idle (s : State) (i : Instr) : Effect s i s := by
  simpa using Effect.streams (s := s) (i := i) (es := []) (bs := [])

theorem outBytes_effect (bs : List Byte) (s : State) (i : Instr) : Effect s i (s.outBytes bs) := by
  have heffect := Effect.streams (s := s) (i := i) (es := []) (bs := bs)
  rwa [List.append_nil] at heffect

theorem emit_effect (e : SinkEvent) (s : State) (i : Instr) : Effect s i (s.emit e) := by
  have heffect := Effect.streams (s := s) (i := i) (es := [e]) (bs := [])
  rwa [List.append_nil] at heffect

theorem cursorTo_effect (r c : Int) (s : State) (i : Instr) : Effect s i (cursorTo r c s) :=
  .cursor (le_max_of_le_right (clampTo_le c _))

theorem cursorPosition_effect (ps : List Nat) (s : State) (i : Instr) : Effect s i (cursorPosition ps s) := by
  unfold cursorPosition
  split <;> exact cursorTo_effect _ _ s i

theorem backspace_le (c : Nat) : (if 0 < c then c - 1 else c) ≤ c := by
  split <;> omega

theorem edit_effect {i : Instr} {s t : State} (hw : writesGrid i = true)
    (hframe : t = { s with grid := t.grid, row := t.row, col := t.col, sink := t.sink }) (hcol : t.col ≤ s.col)
    (hr : Reports s t) : Effect s i t := by
  rw [hframe] at hr ⊢
  exact .edit hw hcol hr

/-- An edit that leaves the cursor. -/
theorem edit_effect_in_place {i : Instr} {s t : State} (hw : writesGrid i = true)
    (hframe : t = { s with grid := t.grid, sink := t.sink }) (hr : Reports s t) : Effect s i t := by
  rw [hframe] at hr ⊢
  exact .edit (r := s.row) hw le_rfl hr

theorem index_effect {i : Instr} {s t : State} (hw : writesGrid i = true) (h : index s = .next t) : Effect s i t := by
  have hr := reports_index h
  have hframe := index_frame h
  rw [hframe] at hr ⊢
  exact .edit hw le_rfl hr

theorem reverseIndex_effect {i : Instr} {s t : State} (hw : writesGrid i = true) (h : reverseIndex s = .next t) :
    Effect s i t := by
  have hr := reports_reverseIndex h
  have hframe := reverseIndex_frame h
  rw [hframe] at hr ⊢
  exact .edit hw le_rfl hr

theorem nel_effect {s t : State} (h : index (s.setCursor s.row 0) = .next t) : Effect s .nel t := by
  have hr := (reports_setCursor s.row 0 s).trans (reports_index h)
  have hframe := index_frame h
  rw [hframe] at hr ⊢
  exact .edit rfl (Nat.zero_le _) hr

theorem lineFeed_effect {i : Instr} {s t : State} (hw : writesGrid i = true) (h : lineFeed s = .next t) :
    Effect s i t := by
  refine edit_effect hw (lineFeed_frame h) ?_ (reports_lineFeed h)
  have hcol := congrArg State.col (index_frame h)
  split at hcol
  · exact hcol.trans_le (Nat.zero_le _)
  · exact hcol.le

theorem alignmentFill_effect (s : State) : Effect s .decaln (alignmentFill s) :=
  edit_effect_in_place rfl rfl (.of_invScreen rfl)

theorem scp_effect {s t : State} (h : scp s = .next t) : Effect s .scp t := by
  obtain rfl := next_inj h
  split
  · exact .savePos ‹_›
  · exact .saveCsr (eq_false_of_ne_true ‹_›)

theorem rcp_effect {s t : State} (h : rcp s = .next t) : Effect s .rcp t := by
  obtain rfl := next_inj h
  split
  · exact .restorePos ‹_›
  · exact .restoreCsr (eq_false_of_ne_true ‹_›)

theorem takeRegion_effect (a b : Nat) (ps : List Nat) (s : State) : Effect s (.decstbm ps) (takeRegion a b s) := by
  unfold takeRegion
  split
  · exact .idle s _
  · exact .region

theorem decstbm_effect {ps : List Nat} {s t : State} (h : decstbm ps s = .next t) : Effect s (.decstbm ps) t := by
  unfold decstbm at h
  split at h <;>
  · cases h
    exact takeRegion_effect _ _ ps s

/-! ### Every instruction -/

/-- One effect, then the parser's. -/
def Result (s : State) (i : Instr) (t : State) : Prop :=
  ∃ m, Effect s i m ∧ ParserEffect m i t

theorem result_next {s t x : State} {i : Instr} (he : Effect s i x) (h : (.next x : Out) = .next t) : Result s i t :=
  next_inj h ▸ ⟨x, he, .keeps⟩

/-- An operation, and then `Cancel()` (41_escape.md R131, R141). -/
theorem result_ends {s t : State} {i : Instr} {o : Out} (hi : endsSequence i = true)
    (he : ∀ m, o = .next m → Effect s i m) (h : thenCancel o = .next t) : Result s i t := by
  obtain ⟨m, hm, rfl⟩ := thenCancel_eq_next.mp h
  exact ⟨m, he m hm, .ends hi⟩

theorem result_move {s t x : State} {i : Instr} (hi : endsSequence i = true) (he : Effect s i x)
    (h : thenCancel (.next x) = .next t) : Result s i t :=
  result_ends hi (fun _ hm => next_inj hm ▸ he) h

theorem result_append {s t : State} {i : Instr} {b : Byte} (hb : appendedByte i = some b)
    (h : (.next (accumulate b s) : Out) = .next t) : Result s i t :=
  next_inj h ▸ ⟨s, .idle s i, .appends hb⟩

/-- The operand of the open form CSI is a body byte: a final-class byte is read as its verb's own instruction (41_escape.md
R141). -/
def CsiOperandOpen (i : Instr) : Prop :=
  ∀ v, i = .csi (some v) → isFinal v = false

theorem csi_result {s t : State} {v : Byte} (hv : isFinal v = false) (h : exec (.csi (some v)) s = .next t) :
    Result s (.csi (some v)) t :=
  result_append rfl ((if_neg (by simp [hv])).symm.trans h)

theorem exec_effect (s : State) : ∀ (i : Instr), CsiOperandOpen i → ∀ t, exec i s = .next t → Result s i t
  | .nul | .c0Nop01 | .c0Nop02 | .c0Nop03 | .c0Nop04 | .c0Nop05 | .c0Nop06 | .c0Nop10 | .c0Nop11 | .c0Nop12 | .c0Nop13
  | .c0Nop14 | .c0Nop15 | .c0Nop16 | .c0Nop17 | .c0Nop19 | .c0Nop1C | .c0Nop1D | .c0Nop1E | .c0Nop1F
  | .sgrIgnored _ | .smIgnored _ | .rmIgnored _ | .keyNull _ | .keyReleased _ _ => fun _ _ => result_next (.idle s _)
  | .bel => fun _ _ => result_next (emit_effect .bell s _)
  | .bs => fun _ _ => result_next (.cursor (le_max_of_le_left (backspace_le s.col)))
  | .ht => fun _ _ => result_next (.cursor (le_max_of_le_right (min_le_right _ _)))
  | .cr => fun _ _ => result_next (.cursor (Nat.zero_le _))
  | .lf | .vt | .ff => fun _ _ h => result_next (lineFeed_effect rfl h) rfl
  | .so => fun _ _ => result_next (.altcs (fun _ => .inl rfl) nofun)
  | .sgrAltcs => fun _ _ => result_next (.altcs (fun _ => .inr rfl) nofun)
  | .si => fun _ _ => result_next (.altcs nofun (fun _ => .inl rfl))
  | .sgrPrimary => fun _ _ => result_next (.altcs nofun (fun _ => .inr rfl))
  | .can | .sub | .oscEnd | .escHashOther (some _) | .scsG0 (some _) | .scsG1 (some _) | .escUnrecognised _
  | .csiUnrecognised _ => fun _ _ => result_move rfl (.idle s _)
  | .esc => fun _ _ h => next_inj h ▸ ⟨s, .idle s _, .startsEsc⟩
  | .csi8 => fun _ _ h => next_inj h ▸ ⟨s, .idle s _, .startsCsi⟩
  | .escHashOther none | .scsG0 none | .scsG1 none | .csi none | .osc none | .osc (some _) => fun _ _ => result_append rfl
  | .csi (some v) => fun hi _ => csi_result (hi v rfl)
  | .print _ => fun _ _ h => result_next (putChar_effect h) rfl
  | .ind => fun _ _ => result_ends rfl fun _ => index_effect rfl
  | .nel => fun _ _ => result_ends rfl fun _ => nel_effect
  | .ri => fun _ _ => result_ends rfl fun _ => reverseIndex_effect rfl
  | .decsc => fun _ _ => result_move rfl .save
  | .decrc => fun _ _ => result_move rfl .restore
  | .decaln => fun _ _ => result_move rfl (alignmentFill_effect s)
  | .sgr _ => fun _ _ => result_ends rfl fun _ => sgr_effect
  | .sm _ => fun _ _ => result_ends rfl fun _ => sm_effect
  | .rm _ => fun _ _ => result_ends rfl fun _ => rm_effect
  | .ed _ => fun _ _ => result_ends rfl fun _ h => edit_effect_in_place rfl (ed_frame h) (reports_ed h)
  | .el _ => fun _ _ => result_ends rfl fun _ h => edit_effect_in_place rfl (el_frame h) (reports_el h)
  | .ech _ => fun _ _ => result_ends rfl fun _ h => edit_effect_in_place rfl (eraseCells_frame h) (reports_eraseCells h)
  | .ich _ | .dch _ => fun _ _ =>
    result_ends rfl fun _ h => edit_effect_in_place rfl (rewriteTail_frame h) (reports_rewriteTail h)
  | .il _ => fun _ _ => result_ends rfl fun _ h => edit_effect_in_place rfl (il_frame h) (reports_il h)
  | .dl _ => fun _ _ => result_ends rfl fun _ h => edit_effect_in_place rfl (dl_frame h) (reports_dl h)
  | .cup _ | .hvp _ => fun _ _ => result_move rfl (cursorPosition_effect _ s _)
  | .cuu _ | .cud _ | .cuf _ | .cub _ | .cnl _ | .cpl _ | .cha _ | .vpr _ | .hpr _ | .vpa _ | .hpa _ => fun _ _ =>
    result_move rfl (cursorTo_effect _ _ s _)
  | .decstbm _ => fun _ _ => result_ends rfl fun _ => decstbm_effect
  | .scp => fun _ _ => result_ends rfl fun _ => scp_effect
  | .rcp => fun _ _ => result_ends rfl fun _ => rcp_effect
  | .sgr0 | .sgrBold _ | .sgrBlink | .sgrReverse _ | .sgrInvisible | .sgrBoldOff _ | .sgrBlinkOff | .sgrInvisibleOff
  | .sgrFg _ | .sgrFgDefault | .sgrBg _ | .sgrBgDefault => fun _ _ => result_next (.attr rfl)
  | .smCkm => fun _ _ => result_next (.setMode .ckm)
  | .smAnm => fun _ _ => result_next (.setMode .anm)
  | .smColm => fun _ _ => result_next (.setMode .colm)
  | .smSclm => fun _ _ => result_next (.setMode .sclm)
  | .smScnm => fun _ _ => result_next (.setMode .scnm)
  | .smOm => fun _ _ => result_next (.setMode .om)
  | .smAwm => fun _ _ => result_next (.setMode .awm)
  | .smArm => fun _ _ => result_next (.setMode .arm)
  | .smInlm => fun _ _ => result_next (.setMode .inlm)
  | .smLnm => fun _ _ => result_next (.setMode .lnm)
  | .sm25 => fun _ _ => result_next (.clearCurinv (.inl rfl))
  | .rm25 => fun _ _ => result_next (.clearCurinv (.inr rfl))
  | .keyChar _ _ | .keyUp _ | .keyDown _ | .keyRight _ | .keyLeft _ | .keyF1 _ | .keyF2 _ | .keyF3 _ | .keyF4 _ | .keyF5 _
  | .keyF6 _ | .keyF7 _ | .keyF8 _ | .keyF9 _ | .keyF10 _ | .keyF11 _ | .keyF12 _ | .keyInsert _ | .keyDelete _ | .keyHome _
  | .keyEnd _ | .keyPageUp _ | .keyPageDown _ | .keySuspend _ => fun _ _ => result_next (outBytes_effect _ s _)

end Sys2Proof.Machine
end

section
/-! SUPPORT. The obligations of 10_state.md that say which instructions write what (R24 to R33): each is read off `Effect`. -/

namespace Sys2Proof.Machine

theorem csiOperandOpen_of_wellFormed {i : Instr} (h : WellFormed i = true) : CsiOperandOpen i := by
  rintro v rfl
  simp only [WellFormed, Bool.and_eq_true, Bool.not_eq_true'] at h
  exact h.2

theorem exec_result {i : Instr} {s t : State} (hi : WellFormed i = true) (h : exec i s = .next t) : Result s i t :=
  exec_effect s i (csiOperandOpen_of_wellFormed hi) t h

/-! ### What SM leaves -/

section SetModes

variable {ps : List Nat} {s m t : State} (hm : SmFrame ps s m) (ht : HookEffect (StateWord.xor s.word m.word) m t)
include hm ht

theorem setModes_frame : t = { s with
    grid := t.grid, row := t.row, col := t.col, scrollMin := t.scrollMin, scrollMax := t.scrollMax, sink := t.sink,
    word := { s.word with modes := t.word.modes, curinv := t.word.curinv, short := t.word.short } } := by
  conv_lhs => rw [ht.frame, hm.1]
  rw [ht.frame]

theorem setModes_modeOf (b : ModeBit) :
    modeOf t.word.modes b = (modeOf s.word.modes b || ps.contains (modeNumber b)) := by
  rw [ht.frame]
  exact hm.2.1 b

theorem setModes_curinv : t.word.curinv = (s.word.curinv && !ps.contains 25) := by
  rw [ht.frame]
  exact hm.2.2

/-- The region and SHORT change only if COLM goes from 0 to 1. -/
theorem setModes_region : (t.scrollMin = s.scrollMin ∧ t.scrollMax = s.scrollMax ∧ t.word.short = s.word.short) ∨
    (s.word.modes.colm = false ∧ t.word.modes.colm = true ∧ t.word.short = false) := by
  have hword : m.word.short = s.word.short := by rw [hm.1]
  have hmin : m.scrollMin = s.scrollMin := by rw [hm.1]
  have hmax : m.scrollMax = s.scrollMax := by rw [hm.1]
  have htm : t.word.modes = m.word.modes := by rw [ht.frame]
  rcases ht.region with h | ⟨hdelta, hshort⟩
  · rw [← hmin, ← hmax, ← hword]
    exact .inl h
  · have hcolm := hm.2.1 .colm
    simp only [modeOf] at hcolm
    rw [htm]
    simp only [StateWord.xor, modesXor] at hdelta
    grind

end SetModes

/-! ### The registers, one by one -/

theorem Effect.parser {s m : State} {i : Instr} (h : Effect s i m) : m.word.esc = s.word.esc ∧ m.acc = s.acc := by
  cases h with
  | setModes hm ht => rw [setModes_frame hm ht]; exact ⟨rfl, rfl⟩
  | _ => exact ⟨rfl, rfl⟩

theorem Effect.params {s m : State} {i : Instr} (h : Effect s i m) : m.params = s.params := by
  cases h with
  | setModes hm ht => rw [setModes_frame hm ht]
  | _ => rfl

theorem Effect.grid {s m : State} {i : Instr} (h : Effect s i m) (hi : writesGrid i = false) : m.grid = s.grid := by
  cases h with
  | edit hw => exact absurd (hi.symm.trans hw) Bool.false_ne_true
  | print | setModes => cases hi
  | _ => rfl

theorem Effect.curAttr {s m : State} {i : Instr} (h : Effect s i m) (hi : writesAttr i = false) : m.curAttr = s.curAttr := by
  cases h with
  | attr hw => exact absurd (hi.symm.trans hw) Bool.false_ne_true
  | sgr | restore => cases hi
  | setModes hm ht => rw [setModes_frame hm ht]
  | _ => rfl

/-- The scrolling region and SHORT (10_state.md R26). -/
theorem Effect.region_or {s m : State} {i : Instr} (h : Effect s i m) :
    (m.scrollMin = s.scrollMin ∧ m.scrollMax = s.scrollMax ∧ m.word.short = s.word.short) ∨
    (∃ ps, i = .decstbm ps) ∨
    (∃ ps, i = .sm ps ∧ s.word.modes.colm = false ∧ m.word.modes.colm = true ∧ m.word.short = false) := by
  cases h with
  | @region ps => exact .inr (.inl ⟨ps, rfl⟩)
  | @setModes ps _ _ hm ht => exact (setModes_region hm ht).imp_right fun h => .inr ⟨ps, rfl, h⟩
  | _ => exact .inl ⟨rfl, rfl, rfl⟩

/-- The alternate-charset bit (10_state.md R29). -/
theorem Effect.altcs_or {s m : State} {i : Instr} (h : Effect s i m) :
    (m.word.altcs = true → s.word.altcs = true ∨
      i = .so ∨ i = .sgrAltcs ∨ (∃ ps, i = .sgr ps ∧ 11 ∈ ps) ∨ i = .decrc) ∧
    (m.word.altcs = false → s.word.altcs = false ∨
      i = .si ∨ i = .sgrPrimary ∨ (∃ ps, i = .sgr ps ∧ 10 ∈ ps) ∨ i = .decrc) := by
  cases h with
  | altcs hset hclear => exact ⟨fun h => .inr ((hset h).imp_right .inl), fun h => .inr ((hclear h).imp_right .inl)⟩
  | @sgr ps _ _ hset hclear =>
    exact ⟨fun h => (hset h).imp_right fun h11 => .inr (.inr (.inl ⟨ps, rfl, h11⟩)),
      fun h => (hclear h).imp_right fun h10 => .inr (.inr (.inl ⟨ps, rfl, h10⟩))⟩
  | restore => exact ⟨fun _ => .inr (.inr (.inr (.inr rfl))), fun _ => .inr (.inr (.inr (.inr rfl)))⟩
  | setModes hm ht => rw [setModes_frame hm ht]; exact ⟨.inl, .inl⟩
  | _ => exact ⟨.inl, .inl⟩

/-- Value 25 is the one that clears a bit. -/
theorem and_not_contains_or (c : Bool) (ps : List Nat) :
    (c && !ps.contains 25) = c ∨ ((c && !ps.contains 25) = false ∧ 25 ∈ ps) := by
  by_cases h : 25 ∈ ps <;> simp [h]

/-- `CURINV` (10_state.md R29; 45_modes.md R222, R227). -/
theorem Effect.curinv_or {s m : State} {i : Instr} (h : Effect s i m) : m.word.curinv = s.word.curinv ∨
    (m.word.curinv = false ∧ (i = .sm25 ∨ i = .rm25 ∨ ∃ ps, (i = .sm ps ∨ i = .rm ps) ∧ 25 ∈ ps)) := by
  cases h with
  | clearCurinv hi => exact .inr ⟨rfl, hi.imp_right .inl⟩
  | resetModes ps =>
    exact (and_not_contains_or _ ps).imp_right fun ⟨hclear, h25⟩ => ⟨hclear, .inr (.inr ⟨ps, .inr rfl, h25⟩)⟩
  | @setModes ps _ _ hm ht =>
    rw [setModes_curinv hm ht]
    exact (and_not_contains_or _ ps).imp_right fun ⟨hclear, h25⟩ => ⟨hclear, .inr (.inr ⟨ps, .inl rfl, h25⟩)⟩
  | _ => exact .inl rfl

theorem modeOf_withMode (ms : Modes) (a b : ModeBit) :
    modeOf (withMode ms a) b = (modeOf ms b || decide (b = a)) := by
  cases a <;> cases b <;> simp [modeOf, withMode]

/-- A mode bit changes by being set (10_state.md R29; 45_modes.md R221). -/
theorem Effect.mode_or {s m : State} {i : Instr} (h : Effect s i m) (b : ModeBit) :
    modeOf m.word.modes b = modeOf s.word.modes b ∨ (modeOf m.word.modes b = true ∧
      (i = decodeSmParam (modeNumber b) ∨ ∃ ps, i = .sm ps ∧ modeNumber b ∈ ps)) := by
  cases h with
  | setMode a =>
    have hmode : modeOf (s.setMode a).word.modes b = _ := modeOf_withMode s.word.modes a b
    by_cases hb : b = a
    · exact .inr ⟨by rw [hmode]; simp [hb], .inl (by rw [hb])⟩
    · exact .inl (by rw [hmode]; simp [hb])
  | @setModes ps _ _ hm ht =>
    have hmode := setModes_modeOf hm ht b
    by_cases hb : modeNumber b ∈ ps
    · exact .inr ⟨by simp [hmode, hb], .inr ⟨ps, rfl, hb⟩⟩
    · exact .inl (by simp [hmode, hb])
  | _ => exact .inl rfl

/-- The DECSC slot (10_state.md R32). -/
theorem Effect.saveSlot {s m : State} {i : Instr} (h : Effect s i m) (hi : i ≠ .decsc) :
    m.saveAttr = s.saveAttr ∧ m.word.savedAltcs = s.word.savedAltcs := by
  cases h with
  | save => exact absurd rfl hi
  | setModes hm ht => rw [setModes_frame hm ht]; exact ⟨rfl, rfl⟩
  | _ => exact ⟨rfl, rfl⟩

theorem Effect.savePosition {s m : State} {i : Instr} (h : Effect s i m) :
    (m.saveRow = s.saveRow ∧ m.saveCol = s.saveCol) ∨ i = .decsc ∨ (i = .scp ∧ s.params.sharedSaveSlot = true) := by
  cases h with
  | save => exact .inr (.inl rfl)
  | savePos hshared => exact .inr (.inr ⟨rfl, hshared⟩)
  | setModes hm ht => rw [setModes_frame hm ht]; exact .inl ⟨rfl, rfl⟩
  | _ => exact .inl ⟨rfl, rfl⟩

/-- The cursor-only slot (10_state.md R33). -/
theorem Effect.csrPosition {s m : State} {i : Instr} (h : Effect s i m) :
    (m.csrRow = s.csrRow ∧ m.csrCol = s.csrCol) ∨ (i = .scp ∧ s.params.sharedSaveSlot = false) := by
  cases h with
  | saveCsr hshared => exact .inr ⟨rfl, hshared⟩
  | setModes hm ht => rw [setModes_frame hm ht]; exact .inl ⟨rfl, rfl⟩
  | _ => exact .inl ⟨rfl, rfl⟩

/-- The pending-wrap column (10_state.md R25). -/
theorem Effect.pendingWrap {s m : State} {i : Instr} (h : Effect s i m) (hcols : 1 ≤ s.params.cols)
    (hle : s.col ≤ s.params.cols) (hcol : m.col = s.params.cols) (hne : s.col ≠ s.params.cols) :
    (∃ b, i = .print b ∧ b ≠ 0x20 ∧ s.col + 1 = s.params.cols) ∨
    (i = .decrc ∧ s.saveCol = s.params.cols) ∨
    (i = .rcp ∧ (if s.params.sharedSaveSlot then s.saveCol else s.csrCol) = s.params.cols) := by
  cases h with
  | @cursor _ _ c _ hc =>
    have hnew : c = s.params.cols := hcol
    omega
  | @edit _ _ _ c _ _ hc =>
    have hnew : c = s.params.cols := hcol
    omega
  | @print b _ _ _ _ hc =>
    have hnew := (hc hne).symm.trans hcol
    split at hnew
    · omega
    · next hspace => exact .inl ⟨b, rfl, fun hb => hspace ⟨hnew, hb⟩, hnew⟩
  | @setModes _ u _ hm ht =>
    have hu : u.col = s.col := by rw [hm.1]
    have := ht.col
    omega
  | restore => exact .inr (.inl ⟨rfl, hcol⟩)
  | restorePos hshared => exact .inr (.inr ⟨rfl, by rw [if_pos hshared]; exact hcol⟩)
  | restoreCsr hshared => exact .inr (.inr ⟨rfl, by rw [if_neg (by simp [hshared])]; exact hcol⟩)
  | _ => exact absurd hcol hne

/-! ### The parser -/

theorem accumulate_esc_false {m : State} {b : Byte} (hm : m.word.esc = true) (h : (accumulate b m).word.esc = false) :
    (accumulate b m).acc = [] ∧ m.acc.length + 1 = m.params.accCap := by
  by_cases hfull : (push b m).acc.length = m.params.accCap
  · have hcancel : accumulate b m = cancel (push b m) := boundCheck_full (push b m) hm hfull
    rw [hcancel]
    exact ⟨rfl, by simpa using hfull⟩
  · have hopen : accumulate b m = push b m := boundCheck_open (push b m) (.inr hfull)
    rw [hopen] at h
    exact absurd (hm.symm.trans h) (by decide)

theorem extendsSequence_of_appendedByte {i : Instr} {b : Byte} (h : appendedByte i = some b) :
    extendsSequence i = true := by
  unfold appendedByte at h
  split at h
  case h_8 => cases h
  all_goals rfl

theorem accumulate_esc {m : State} {b : Byte} (h : (accumulate b m).word.esc = true) : m.word.esc = true := by
  unfold accumulate boundCheck at h
  split at h
  · cases h
  · exact h

theorem ParserEffect.esc_set {m t : State} {i : Instr} (h : ParserEffect m i t) (ht : t.word.esc = true) :
    m.word.esc = true ∨ i = .esc ∨ i = .csi8 := by
  cases h with
  | keeps => exact .inl ht
  | ends => cases ht
  | startsEsc => exact .inr (.inl rfl)
  | startsCsi => exact .inr (.inr rfl)
  | appends hb => exact .inl (accumulate_esc ht)

/-- ESC is cleared by `Cancel()`, at the end of a sequence or at the bound (40_parser_control.md R103, R104). -/
theorem ParserEffect.esc_clear {m t : State} {i : Instr} (h : ParserEffect m i t) (ht : t.word.esc = false)
    (hm : m.word.esc = true) : t.acc = [] ∧
      (endsSequence i = true ∨ (extendsSequence i = true ∧ m.acc.length + 1 = m.params.accCap)) := by
  cases h with
  | keeps => exact absurd (hm.symm.trans ht) (by decide)
  | ends hi => exact ⟨rfl, .inl hi⟩
  | startsEsc | startsCsi => cases ht
  | appends hb =>
    obtain ⟨hacc, hlen⟩ := accumulate_esc_false hm ht
    exact ⟨hacc, .inr ⟨extendsSequence_of_appendedByte hb, hlen⟩⟩

/-! ### The packed word -/

theorem getLsbD_bitAt (i j : Nat) (b : Bool) : (bitAt i b).getLsbD j = (b && decide (j < 16) && decide (i = j)) := by
  cases b with
  | false => simp [bitAt]
  | true => rw [bitAt, if_pos rfl, BitVec.getLsbD_ofNat, Nat.testBit_two_pow, Bool.true_and]

theorem toWord_reserved (w : StateWord) : w.toWord.getLsbD 15 = false := by
  simp only [StateWord.toWord, BitVec.getLsbD_or, getLsbD_bitAt]
  simp

/-! ### The obligations -/

/-- Settles O20: the grid is written by the effects `edit`, `print` and `setModes`, whose instructions are those of
`writesGrid`. -/
theorem gridWriters : Obligations.GridWriters := by
  intro i s t hi h hw
  obtain ⟨m, he, hp⟩ := exec_result hi h
  rw [hp.frame]
  exact he.grid hw

/-- Settles O22: the region is written by the effect `region` and by a COLM side effect, which needs COLM to go from 0 to 1;
`CUR_ATTR` by `attr`, `sgr` and `restore`. -/
theorem regionAndAttributeWriters : Obligations.RegionAndAttributeWriters := by
  refine ⟨fun i s t hi h hne => ?_, fun i s t hi h hw => ?_⟩
  · obtain ⟨m, he, hp⟩ := exec_result hi h
    rw [hp.frame] at hne ⊢
    rcases he.region_or with ⟨hmin, hmax, hshort⟩ | hregion | ⟨ps, hsm, hs, hm, -⟩
    · rcases hne with hne | hne | hne
      · exact absurd hmin hne
      · exact absurd hmax hne
      · exact absurd hshort hne
    · exact .inl hregion
    · exact .inr ⟨ps, hsm, hs, hm⟩
  · obtain ⟨m, he, hp⟩ := exec_result hi h
    rw [hp.frame]
    exact he.curAttr hw

/-- Settles O24: the slots are written by the effects `save`, `savePos` and `saveCsr`. -/
theorem slotWriters : Obligations.SlotWriters := by
  intro i s t hi h
  obtain ⟨m, he, hp⟩ := exec_result hi h
  rw [hp.frame]
  refine ⟨fun hne => ?_, fun hne => ?_, fun hne => ?_⟩
  · exact he.savePosition.resolve_left fun ⟨hrow, hcol⟩ => hne.elim (absurd hrow) (absurd hcol)
  · by_contra hi
    exact hne (he.saveSlot hi).1
  · exact he.csrPosition.resolve_left fun ⟨hrow, hcol⟩ => hne.elim (absurd hrow) (absurd hcol)

/-- Settles O25: every effect but Put-Char and the two restores leaves a column below the last one, or the old one. -/
theorem pendingWrapSources : Obligations.PendingWrapSources := by
  intro i s t hi hinv h hcol hne
  obtain ⟨m, he, hp⟩ := exec_result hi h
  rw [hp.frame] at hcol
  exact he.pendingWrap (RangeInv.of_inv hinv).dims.2.1 hinv.colLe hcol hne

/-- Settles O23: bit by bit from the effect that writes it, with ESC from the parser's effect. -/
theorem stateWordWriters : Obligations.StateWordWriters := by
  intro i s t hi h
  obtain ⟨m, he, hp⟩ := exec_result hi h
  obtain ⟨hesc, hacc⟩ := he.parser
  have hset := hp.esc_set
  have hclear := hp.esc_clear
  rw [hesc, hacc, he.params] at hclear
  rw [hesc] at hset
  refine ⟨hset, hclear, ?_⟩
  rw [hp.frame]
  refine ⟨fun ht hs => ?_, fun ht hs => ?_, fun ht => ?_, fun hne => ?_, fun ht hs => ?_, fun ht hs => ?_,
    fun b hne => ?_, fun hne => ?_, toWord_reserved _⟩
  · exact (he.altcs_or.1 ht).resolve_left (by simp [hs])
  · exact (he.altcs_or.2 ht).resolve_left (by simp [hs])
  · rcases he.curinv_or with heq | ⟨hfalse, -⟩
    · exact heq ▸ ht
    · exact absurd (hfalse.symm.trans ht) (by decide)
  · exact (he.curinv_or.resolve_left hne).2
  · rcases he.region_or with ⟨-, -, heq⟩ | hregion | ⟨-, -, -, -, hfalse⟩
    · exact absurd (hs.symm.trans (heq.symm.trans ht)) (by decide)
    · exact hregion
    · exact absurd (hfalse.symm.trans ht) (by decide)
  · rcases he.region_or with ⟨-, -, heq⟩ | hregion | ⟨ps, hsm, h0, h1, -⟩
    · exact absurd (ht.symm.trans (heq.trans hs)) (by decide)
    · exact .inl hregion
    · exact .inr ⟨ps, hsm, h0, h1⟩
  · exact (he.mode_or b).resolve_left hne
  · by_contra hi
    exact hne (he.saveSlot hi).2

end Sys2Proof.Machine
end

section
/-! SUPPORT. What a step is, read off the host's next call, and the instructions that a call can run: which of them append
their byte to the accumulator, and that its text then stays one of the forms of 10_state.md R31. -/

namespace Sys2Proof.Machine

/-! ### Steps -/

/-- What a completed step did. -/
inductive StepCase (s : State) : State → Prop where
  | idle (hcalls : s.calls = []) : StepCase s s
  | profile {p : Profile} {rest : List HostCall} (hcalls : s.calls = .selectProfile p :: rest) :
      StepCase s ((s.setCalls rest).setProfile p)
  | byte {b : Byte} {rest : List HostCall} {t : State} (hcalls : s.calls = .byte b :: rest)
      (hexec : exec (fetchInstr b (s.setCalls rest)) (s.setCalls rest) = .next t) : StepCase s t
  | key {ev : KeyEvent} {rest : List HostCall} {i : Instr} {t : State} (hcalls : s.calls = .key ev :: rest)
      (hi : decodeKey ev = .ok i) (hexec : exec i (s.setCalls rest) = .next t) : StepCase s t

theorem step_nil {s : State} (hok : s.params.ok = true) (hcalls : s.calls = []) : step s = .next s := by
  rw [step, if_pos hok, hcalls]

theorem step_profile {s : State} {p : Profile} {rest : List HostCall} (hok : s.params.ok = true)
    (hcalls : s.calls = .selectProfile p :: rest) : step s = .next ((s.setCalls rest).setProfile p) := by
  rw [step, if_pos hok, hcalls]
  rfl

theorem step_byte {s : State} {b : Byte} {rest : List HostCall} (hok : s.params.ok = true)
    (hcalls : s.calls = .byte b :: rest) : step s = exec (fetchInstr b (s.setCalls rest)) (s.setCalls rest) := by
  rw [step, if_pos hok, hcalls]
  rfl

theorem step_key {s : State} {ev : KeyEvent} {rest : List HostCall} {i : Instr} (hok : s.params.ok = true)
    (hcalls : s.calls = .key ev :: rest) (hi : decodeKey ev = .ok i) : step s = exec i (s.setCalls rest) := by
  rw [step, if_pos hok, hcalls]
  simp only [request, decode, hi]

theorem step_params_ok {s t : State} (h : step s = .next t) : s.params.ok = true := by
  by_contra hok
  rw [step, if_neg hok] at h
  cases h

theorem step_case {s t : State} (h : step s = .next t) : StepCase s t := by
  have hok := step_params_ok h
  match hcalls : s.calls with
  | [] =>
    rw [step_nil hok hcalls] at h
    cases h
    exact .idle hcalls
  | .selectProfile p :: rest =>
    rw [step_profile hok hcalls] at h
    cases h
    exact .profile hcalls
  | .byte b :: rest => exact .byte hcalls ((step_byte hok hcalls).symm.trans h)
  | .key ev :: rest =>
    match hi : decodeKey ev with
    | .ok i => exact .key hcalls hi ((step_key hok hcalls hi).symm.trans h)
    | .error e =>
      rw [step, if_pos hok, hcalls] at h
      simp only [request, decode, hi] at h
      cases h
  | .invalidBuffer :: rest | .reentrant :: rest =>
    rw [step, if_pos hok, hcalls] at h
    cases h

/-! ### The instructions of a call -/

theorem decodeByte_open (b : Byte) : CsiOperandOpen (decodeByte b) ∧ appendedByte (decodeByte b) = none := by
  unfold decodeByte
  split <;> exact ⟨nofun, rfl⟩

theorem decodeVerb_open (ps : List Nat) (v : Byte) :
    CsiOperandOpen (decodeVerb ps v) ∧ appendedByte (decodeVerb ps v) = none := by
  unfold decodeVerb
  split <;> exact ⟨nofun, rfl⟩

theorem isKeyInstr_of_decodeKey {ev : KeyEvent} {i : Instr} (h : decodeKey ev = .ok i) : isKeyInstr i = true := by
  unfold decodeKey at h
  split at h
  · unfold decodePressed at h
    split at h <;> cases h <;> rfl
  · split at h <;> cases h
    rfl

theorem isKeyInstr_open {i : Instr} (h : isKeyInstr i = true) : CsiOperandOpen i ∧ appendedByte i = none := by
  refine ⟨fun v hi => ?_, ?_⟩
  · subst hi
    cases h
  · unfold appendedByte
    split
    case h_8 => rfl
    all_goals cases h

theorem decodeSeq_open (f : Byte) (rest : List Byte) : CsiOperandOpen (decodeSeq f rest) := by
  unfold decodeSeq
  split
  case h_6 =>
    split
    · nofun
    · split <;> nofun
  case h_9 =>
    split
    · nofun
    · split
      · exact (decodeVerb_open _ _).1
      · next hv =>
        intro v hi
        cases hi
        exact eq_false_of_ne_true hv
  case h_10 =>
    split
    · nofun
    · split <;> nofun
  all_goals nofun

theorem decodeAny_open (l : List Byte) : CsiOperandOpen (decodeAny l) := by
  unfold decodeAny
  split
  · nofun
  · exact (decodeByte_open _).1
  · split <;> exact decodeSeq_open _ _

/-- The byte after ESC opens the forms of `accShape` and no other (41_escape.md R131). -/
theorem decodeSeq_first : ∀ b : Byte, appendedByte (decodeSeq b []) = none ∨
    (appendedByte (decodeSeq b []) = some b ∧ accShape [b] = true) := by
  decide

/-- The second byte completes the two-byte forms (30_encoding.md R73). -/
theorem decodeSeq_second : ∀ f ∈ [(0x23 : Byte), 0x28, 0x29], ∀ b : Byte, appendedByte (decodeSeq f [b]) = none := by
  decide

theorem decodeSeq_csi (body : List Byte) (v : Byte) : decodeSeq 0x5B (body ++ [v]) =
    if isFinal v then decodeVerb (parseParams body) v else .csi (some v) := by
  simp [decodeSeq]

theorem decodeSeq_osc (payload : List Byte) (t : Byte) : decodeSeq 0x5D (payload ++ [t]) =
    if t == 0x07 then .oscEnd else .osc (some t) := by
  simp [decodeSeq]

/-- The text of a sequence in progress, by the byte that opened it (10_state.md R31). -/
theorem accShape_cons {f : Byte} {rest : List Byte} (h : accShape (f :: rest) = true) :
    (f = 0x5B ∧ ∀ b ∈ rest, isGraphic b = true ∧ isFinal b = false) ∨
    (f = 0x5D ∧ ∀ b ∈ rest, isGraphic b = true) ∨
    ((f = 0x23 ∨ f = 0x28 ∨ f = 0x29) ∧ rest = []) := by
  simp only [accShape] at h
  split at h
  · next hf => exact .inl ⟨eq_of_beq hf, by simpa using h⟩
  · split at h
    · next hf => exact .inr (.inl ⟨eq_of_beq hf, by simpa using h⟩)
    · exact .inr (.inr (by simpa [or_assoc] using h))

/-- A further byte that leaves its sequence open keeps the accumulator one of the forms of R31. -/
theorem decodeSeq_further {f b x : Byte} {rest : List Byte} (hshape : accShape (f :: rest) = true)
    (hb : isGraphic b = true) (h : appendedByte (decodeSeq f (rest ++ [b])) = some x) :
    accShape (f :: (rest ++ [x])) = true := by
  rcases accShape_cons hshape with ⟨rfl, hbody⟩ | ⟨rfl, hpayload⟩ | ⟨hf, rfl⟩
  · rw [decodeSeq_csi] at h
    split at h
    · rw [(decodeVerb_open _ _).2] at h
      cases h
    · next hfinal =>
      cases h
      simpa [accShape, hb, hfinal] using hbody
  · rw [decodeSeq_osc] at h
    split at h
    · cases h
    · cases h
      simpa [accShape, hb] using hpayload
  · exact absurd ((decodeSeq_second f (by simpa using hf) b).symm.trans h) nofun

theorem isGraphic_of_not_control {b : Byte} (h0 : ¬ (b == 0x00) = true) (hc : ¬ isControl b = true) :
    isGraphic b = true := by
  revert b
  decide

/-- A byte is appended only to a sequence in progress, and the text stays one of the forms of R31. -/
theorem fetchInstr_appends {s : State} {b x : Byte} (hshape : accShape s.acc = true)
    (h : appendedByte (fetchInstr b s) = some x) : s.word.esc = true ∧ accShape (s.acc ++ [x]) = true := by
  have halone : appendedByte (decodeAny [b]) ≠ some x := by
    rw [decodeAny, (decodeByte_open b).2]
    exact nofun
  unfold fetchInstr fetchText at h
  split at h
  · exact absurd h halone
  split at h
  · next hend =>
    simp only [State.endsOsc, Bool.and_eq_true, beq_iff_eq] at hend
    obtain ⟨⟨-, hhead⟩, rfl⟩ := hend
    obtain ⟨payload, hacc⟩ := List.head?_eq_some_iff.mp hhead
    have hdecode : decodeAny (0x1B :: (s.acc ++ [0x07])) = decodeSeq 0x5D (payload ++ [0x07]) := by rw [hacc]; rfl
    rw [hdecode, decodeSeq_osc] at h
    cases h
  split at h
  · exact absurd h halone
  split at h
  · next h0 _ hc hesc =>
    refine ⟨hesc, ?_⟩
    match hacc : s.acc with
    | [] =>
      rw [hacc] at h
      rcases decodeSeq_first b with hnone | ⟨hsome, hopen⟩
      · exact absurd (hnone.symm.trans h) nofun
      · exact Option.some.inj (hsome.symm.trans h) ▸ hopen
    | f :: rest =>
      rw [hacc] at h hshape
      exact decodeSeq_further hshape (isGraphic_of_not_control h0 hc) h
  · exact absurd h halone

end Sys2Proof.Machine
end

section
/-! SUPPORT. The invariant of 10_state.md R38 over whole steps: the ranges from Laws/Keeps, the parser's part from `ParserEffect`. -/

namespace Sys2Proof.Machine

theorem StateInv.of_range {s : State} (h : RangeInv s) (hnormal : s.word.esc = false → s.acc = [])
    (hbound : s.word.esc = true → s.acc.length < s.params.accCap) (hform : accShape s.acc = true) : StateInv s :=
  ⟨h.1, h.2, h.3, h.4, h.5, h.6, h.7, h.8, h.9, h.10, h.11, h.12, h.13, hnormal, hbound, hform, h.14⟩

theorem StateInv.setCalls {s : State} (h : StateInv s) (l : List HostCall) : StateInv (s.setCalls l) :=
  .of_range (rangeInv_calls (RangeInv.of_inv h)) h.accNormal h.accBound h.accForm

/-- An append keeps the invariant if the longer text is still one of the forms of R31: at the bound the sequence is
dropped. -/
theorem stateInv_accumulate {m : State} {b : Byte} (h : RangeInv (accumulate b m)) (hesc : m.word.esc = true)
    (hbound : m.acc.length < m.params.accCap) (hform : accShape (m.acc ++ [b]) = true) : StateInv (accumulate b m) := by
  by_cases hfull : (push b m).acc.length = m.params.accCap
  · have hcancel : accumulate b m = cancel (push b m) := boundCheck_full (push b m) hesc hfull
    rw [hcancel] at h ⊢
    exact .of_range h (fun _ => rfl) nofun rfl
  · have hopen : accumulate b m = push b m := boundCheck_open (push b m) (.inr hfull)
    rw [hopen] at h ⊢
    refine .of_range h (fun hf => absurd (hesc.symm.trans hf) (by decide)) (fun _ => ?_) hform
    have hlen : (push b m).acc.length = m.acc.length + 1 := by simp
    show (push b m).acc.length < m.params.accCap
    omega

/-- An instruction that appends only what its sequence allows keeps the invariant. -/
theorem exec_keepsInv {i : Instr} {s t : State} (hinv : StateInv s) (hi : CsiOperandOpen i)
    (happend : ∀ b, appendedByte i = some b → s.word.esc = true ∧ accShape (s.acc ++ [b]) = true)
    (h : exec i s = .next t) : StateInv t := by
  obtain ⟨u, hu, hrange⟩ := exec_keepsRanges i s (RangeInv.of_inv hinv)
  obtain rfl := next_inj (hu.symm.trans h)
  obtain ⟨m, he, hp⟩ := exec_effect s i hi _ h
  obtain ⟨hesc, hacc⟩ := he.parser
  cases hp with
  | keeps =>
    refine .of_range hrange ?_ ?_ ?_ <;> simp only [hesc, hacc, he.params]
    exacts [hinv.accNormal, hinv.accBound, hinv.accForm]
  | ends => exact .of_range hrange (fun _ => rfl) nofun rfl
  | startsEsc => exact .of_range hrange nofun (fun _ => Nat.zero_lt_of_lt hrange.dims.2.2) rfl
  | startsCsi => exact .of_range hrange nofun (fun _ => hrange.dims.2.2) rfl
  | appends hb =>
    obtain ⟨hs, hform⟩ := happend _ hb
    refine stateInv_accumulate hrange (hesc.trans hs) ?_ ?_
    · rw [hacc, he.params]
      exact hinv.accBound hs
    · rw [hacc]
      exact hform

/-- Settles O11: every instruction keeps the ranges, and a byte is appended to the accumulator only where its text stays
one of the forms of R31. -/
theorem stepsKeepTheInvariant : Obligations.StepsKeepTheInvariant := by
  intro s t hinv h
  cases step_case h with
  | idle => exact hinv
  | @profile p rest =>
    have hrest := hinv.setCalls rest
    exact .of_range (rangeInv_profile (RangeInv.of_inv hrest)) hrest.accNormal hrest.accBound hrest.accForm
  | @byte b rest _ _ hexec =>
    have hrest := hinv.setCalls rest
    exact exec_keepsInv hrest (decodeAny_open _) (fun x => fetchInstr_appends hrest.accForm) hexec
  | @key ev rest i _ _ hi hexec =>
    obtain ⟨hopen, hnone⟩ := isKeyInstr_open (isKeyInstr_of_decodeKey hi)
    exact exec_keepsInv (hinv.setCalls rest) hopen (fun x hx => absurd (hnone.symm.trans hx) nofun) hexec

end Sys2Proof.Machine
end

section
/-! SUPPORT. The covering property of 10_state.md R35 over whole steps, and the growth of both streams (R34). -/

namespace Sys2Proof.Machine

theorem Effect.reports {s m : State} {i : Instr} (h : Effect s i m) : Reports s m := by
  cases h with
  | streams | cursor | restore | restorePos | restoreCsr => exact .of_grid rfl rfl (List.prefix_append _ _)
  | edit _ _ hr | print _ hr => exact hr
  | setModes hm ht =>
    refine .trans ?_ ht.reports
    rw [hm.1]
    exact .of_grid rfl rfl List.prefix_rfl
  | _ => exact .of_grid rfl rfl List.prefix_rfl

theorem Effect.out_prefix {s m : State} {i : Instr} (h : Effect s i m) : s.out <+: m.out := by
  cases h with
  | streams => exact List.prefix_append _ _
  | setModes hm ht => rw [setModes_frame hm ht]
  | _ => exact List.prefix_rfl

theorem ParserEffect.reports {m t : State} {i : Instr} (h : ParserEffect m i t) : Reports m t := by
  rw [h.frame]
  exact .of_grid rfl rfl List.prefix_rfl

theorem exec_reports {i : Instr} {s t : State} (hi : CsiOperandOpen i) (h : exec i s = .next t) :
    Reports s t ∧ s.out <+: t.out := by
  obtain ⟨m, he, hp⟩ := exec_effect s i hi t h
  refine ⟨he.reports.trans hp.reports, ?_⟩
  rw [hp.frame]
  exact he.out_prefix

theorem reports_setCalls (l : List HostCall) (s : State) : Reports s (s.setCalls l) :=
  .of_grid rfl rfl List.prefix_rfl

theorem step_reports {s t : State} (h : step s = .next t) : Reports s t ∧ s.out <+: t.out := by
  cases step_case h with
  | idle => exact ⟨.refl s, List.prefix_rfl⟩
  | profile => exact ⟨.of_grid rfl rfl List.prefix_rfl, List.prefix_rfl⟩
  | @byte b rest _ _ hexec =>
    obtain ⟨hr, hout⟩ := exec_reports (decodeAny_open _) hexec
    exact ⟨(reports_setCalls rest s).trans hr, hout⟩
  | @key ev rest i _ _ hi hexec =>
    obtain ⟨hr, hout⟩ := exec_reports (isKeyInstr_open (isKeyInstr_of_decodeKey hi)).1 hexec
    exact ⟨(reports_setCalls rest s).trans hr, hout⟩

/-- Settles O16: each operation that writes cells appends events that cover them, and later events do not undo that. -/
theorem changedCellsAreReported : Obligations.ChangedCellsAreReported :=
  fun _ _ h => (step_reports h).1.covered

end Sys2Proof.Machine
end

section
/-! SUPPORT. No instruction reads the output streams (10_state.md R34): each commutes with putting something before them. -/

namespace Sys2Proof.Machine

/-- Something put before both streams, and the pending calls `cs`. -/
def streamPatch (es : List SinkEvent) (bs : List Byte) (cs : List HostCall) : Patch :=
  { fe := id, fa := id, es := es, bs := bs, cs := cs }

/-- The operation reads neither the streams nor the pending calls. -/
def Unread (f : State → Out) : Prop :=
  ∀ es bs cs s, f ((streamPatch es bs cs).ap s) = mapNext (streamPatch es bs cs).ap (f s)

theorem unread_next {f : State → State}
    (h : ∀ es bs cs s, f ((streamPatch es bs cs).ap s) = (streamPatch es bs cs).ap (f s)) :
    Unread (fun s => .next (f s)) :=
  fun es bs cs s => congrArg Host.Outcome.next (h es bs cs s)

theorem unread_cancel {f : State → Out} (h : Unread f) : Unread (fun s => thenCancel (f s)) :=
  fun es bs cs s => andThen_commutes (h es bs cs s) fun _ => rfl

theorem unread_emit {f : State → State} (e : SinkEvent)
    (h : ∀ es bs cs s, f ((streamPatch es bs cs).ap s) = (streamPatch es bs cs).ap (f s)) :
    Unread (fun s => .next ((f s).emit e)) :=
  unread_next fun es bs cs s => by rw [h, emit_ap]

theorem unread_outBytes {g : State → List Byte} (h : ∀ es bs cs s, g ((streamPatch es bs cs).ap s) = g s) :
    Unread (fun s => .next (s.outBytes (g s))) :=
  unread_next fun es bs cs s => by rw [h, outBytes_ap]

theorem unread_accumulate (b : Byte) : Unread (fun s => .next (accumulate b s)) :=
  unread_next fun es bs cs s => by
    unfold accumulate boundCheck
    rw [apply_ite (streamPatch es bs cs).ap]
    rfl

theorem unread_command {i : Instr} {ps : List Nat} {v : Byte} (h : commandOf i = some (ps, v)) : Unread (exec i) :=
  exec_command h ▸ unread_cancel fun _ _ _ s => csiVerb_ap _ s ps v

theorem unread_execCsi (o : Option Byte) : Unread (execCsi o) := by
  cases o with
  | none => exact unread_accumulate 0x5B
  | some v =>
    intro es bs cs s
    simp only [execCsi, mapNext_ite]
    exact if_congr Iff.rfl (andThen_commutes (csiDispatch_ap _ s _) fun _ => rfl) (unread_accumulate v es bs cs s)

theorem exec_unread : ∀ i : Instr, Unread (exec i)
  | .nul | .c0Nop01 | .c0Nop02 | .c0Nop03 | .c0Nop04 | .c0Nop05 | .c0Nop06 | .c0Nop10 | .c0Nop11 | .c0Nop12 | .c0Nop13
  | .c0Nop14 | .c0Nop15 | .c0Nop16 | .c0Nop17 | .c0Nop19 | .c0Nop1C | .c0Nop1D | .c0Nop1E | .c0Nop1F
  | .sgrIgnored _ | .smIgnored _ | .rmIgnored _ | .keyNull _ | .keyReleased _ _
  | .so | .sgrAltcs | .si | .sgrPrimary | .esc | .csi8
  | .can | .sub | .oscEnd | .escHashOther (some _) | .scsG0 (some _) | .scsG1 (some _) | .escUnrecognised _
  | .csiUnrecognised _
  | .sgr0 | .sgrBold _ | .sgrBlink | .sgrReverse _ | .sgrInvisible | .sgrBoldOff _ | .sgrBlinkOff | .sgrInvisibleOff | .sgrFg _
  | .sgrFgDefault | .sgrBg _ | .sgrBgDefault
  | .smCkm | .smAnm | .smColm | .smSclm | .smScnm | .smOm | .smAwm | .smArm | .smInlm | .smLnm
  | .sm25 | .rm25 => fun _ _ _ _ => rfl
  | .bel | .bs | .ht | .cr => unread_emit _ fun _ _ _ _ => rfl
  | .lf | .vt | .ff => fun _ _ _ s => lineFeed_ap _ s
  | .escHashOther none | .scsG0 none | .scsG1 none | .osc none | .osc (some _) => unread_accumulate _
  | .csi o => unread_execCsi o
  | .print b => fun _ _ _ s => putChar_ap _ s b
  | .ind => unread_cancel fun _ _ _ s => index_ap _ s
  | .nel => unread_cancel fun _ _ _ s => index_ap _ (s.setCursor s.row 0)
  | .ri => unread_cancel fun _ _ _ s => reverseIndex_ap _ s
  | .decsc => unread_cancel (f := fun s => .next (saveCursor s)) fun _ _ _ _ => rfl
  | .decrc => unread_cancel (unread_next fun _ _ _ s => restore_ap _ s)
  | .decaln => unread_cancel (unread_next fun _ _ _ s => align_ap _ s)
  | .sgr _ | .sm _ | .rm _ | .ed _ | .cup _ | .hvp _ | .cuu _ | .cud _ | .cuf _ | .cub _ | .cnl _ | .cpl _ | .cha _ | .vpr _
  | .hpr _ | .vpa _ | .hpa _ | .el _ | .ich _ | .dch _ | .il _ | .dl _ | .ech _ | .decstbm _ | .scp | .rcp =>
    unread_command rfl
  | .keyChar _ _ | .keyUp _ | .keyDown _ | .keyRight _ | .keyLeft _ | .keyF1 _ | .keyF2 _ | .keyF3 _ | .keyF4 _ | .keyF5 _
  | .keyF6 _ | .keyF7 _ | .keyF8 _ | .keyF9 _ | .keyF10 _ | .keyF11 _ | .keyF12 _ | .keyInsert _ | .keyDelete _ | .keyHome _
  | .keyEnd _ | .keyPageUp _ | .keyPageDown _ | .keySuspend _ => unread_outBytes fun _ _ _ _ => rfl

/-- An instruction leaves the pending calls: the patch that puts nothing before the streams and keeps the calls is the
identity on its start state, so it is one on its next state. -/
theorem exec_calls {i : Instr} {s t : State} (h : exec i s = .next t) : t.calls = s.calls := by
  have hsame : exec i s = mapNext (streamPatch [] [] s.calls).ap (exec i s) := exec_unread i [] [] s.calls s
  rw [h, mapNext_next] at hsame
  have hcalls := congrArg State.calls (next_inj hsame)
  exact hcalls

theorem exec_prefixed {i : Instr} {s t : State} (es : List SinkEvent) (bs : List Byte) (h : exec i s = .next t) :
    exec i { s with sink := es ++ s.sink, out := bs ++ s.out } =
      .next { t with sink := es ++ t.sink, out := bs ++ t.out } := by
  have hpatch := exec_unread i es bs s.calls s
  rw [h, mapNext_next] at hpatch
  refine hpatch.trans (congrArg Host.Outcome.next ?_)
  rw [← exec_calls h]
  rfl

/-- Settles O18: growth from what every step reports, and non-reading because each instruction commutes with putting
something before the streams. -/
theorem streamsGrowUnread : Obligations.StreamsGrowUnread := by
  refine ⟨fun s t h => ⟨(step_reports h).1.sink, (step_reports h).2⟩, fun s t es bs h => ?_, rfl, rfl⟩
  have hok := step_params_ok h
  cases step_case h with
  | idle hcalls => exact step_nil hok hcalls
  | profile hcalls => exact step_profile hok hcalls
  | byte hcalls hexec => exact Eq.trans (step_byte hok hcalls) (exec_prefixed es bs hexec)
  | key hcalls hi hexec => exact Eq.trans (step_key hok hcalls hi) (exec_prefixed es bs hexec)

end Sys2Proof.Machine
end

section
/-! SUPPORT. The obligations of 10_state.md about construction (R37, R38), the idle and profile steps (R36) and the decoded
instruction of a step (R20). -/

namespace Sys2Proof.Machine

theorem construct_cellAt (p : Params) (k : Profile) (r c : Nat) :
    (State.construct p k).cellAt r c = if r < p.rows ∧ c < p.cols then some (resetCell p) else none :=
  if_congr (State.inGrid_iff _ r c) rfl rfl

/-- Settles O1: a constructed grid lists no cell, so every address reads as the reset cell, and the other values are those of
`State.construct`; the bits of the packed word are read one by one. -/
theorem resetValues : Obligations.ResetValues := by
  refine ⟨?_, rfl, fun m => by cases m <;> rfl⟩
  rintro p k s rfl
  refine ⟨construct_cellAt p k, rfl, rfl, rfl, rfl, rfl, ?_, fun _ => rfl, ?_,
    rfl, rfl, rfl, rfl, rfl, rfl, rfl, rfl, rfl⟩ <;>
  · simp only [StateWord.toWord, BitVec.getLsbD_or, getLsbD_bitAt]
    simp [State.construct, resetWord]

/-- Settles O4: these are the two branches of `step` that run no instruction. -/
theorem idleAndProfileSteps : Obligations.IdleAndProfileSteps :=
  fun _ hok => ⟨step_nil hok, fun _ _ => step_profile hok⟩

/-- What the decoder accepts of some bytes is what `decodeAny` reads from them. -/
theorem decodeAny_of_decode {l : List Byte} {i : Instr} (h : decode (.bytes l) = .ok i) : decodeAny l = i := by
  simp only [decode] at h
  split at h
  · cases h
  · exact Except.ok.inj h

/-- Settles O5: the fetched instruction is `decodeAny` of the text, which `decode` answers where it accepts it. -/
theorem stepRunsTheDecodedInstruction : Obligations.StepRunsTheDecodedInstruction := by
  rintro s c rest i hok hcalls (⟨b, rfl, hi⟩ | ⟨ev, rfl, hi⟩)
  · rw [step_byte hok hcalls, ← decodeAny_of_decode hi]
    rfl
  · exact step_key hok hcalls hi

/-- Settles O10: row, column and the save slots are 0, the region is the full height, and the grid is empty. -/
theorem constructedStatesMeetTheInvariant : Obligations.ConstructedStatesMeetTheInvariant := by
  intro p k hok
  obtain ⟨hrows, -, -⟩ := Params.ok_iff.mp hok
  have hlast : p.rows - 1 < p.rows := Nat.sub_one_lt_of_lt hrows
  have hfull : (State.construct p k).fullRegion = true := by simp [State.fullRegion, State.construct]
  exact
    { paramsOk := hok, rowLt := hrows, colLe := Nat.zero_le _, regionLe := Nat.zero_le _, scrollMaxLt := hlast
      saveRowLt := hrows, saveColLe := Nat.zero_le _, csrRowLt := hrows, csrColLe := Nat.zero_le _
      shortIff := by rw [hfull]; rfl
      curAltcs := rfl, saveAltcs := rfl, curinvClear := rfl
      accNormal := fun _ => rfl, accBound := nofun, accForm := rfl, gridWf := Memory.wf_nil _ _ }

end Sys2Proof.Machine
end

section
/-! SUPPORT. The obligation of 20_memory.md about reads and writes of the grid (R54). A canonical grid lists exactly the
indices that do not read as the reset cell, each with the cell read there, so what is read decides the list (log 12). -/

namespace Sys2Proof.Machine

/-- A listed entry is what its index reads as. -/
theorem Memory.get_of_mem {d : Cell} {e : Nat × Cell} {m : Memory} (hm : m.Pairwise (fun a b => a.1 < b.1))
    (he : e ∈ m) : Memory.get d e.1 m = e.2 := by
  induction m with
  | nil => cases he
  | cons a rest ih =>
    obtain ⟨hlt, hrest⟩ := List.pairwise_cons.mp hm
    rcases List.mem_cons.mp he with rfl | he
    · exact if_pos rfl
    · exact (if_neg (hlt e he).ne).trans (ih hrest he)

/-- An index that does not read as the cell of an unlisted one is listed. -/
theorem Memory.mem_of_get_ne {d : Cell} {i : Nat} {m : Memory} (h : Memory.get d i m ≠ d) :
    (i, Memory.get d i m) ∈ m := by
  induction m with
  | nil => exact absurd rfl h
  | cons a rest ih =>
    obtain ⟨k, v⟩ := a
    by_cases hk : k = i
    · simp [Memory.get, hk]
    · simp only [Memory.get, hk, if_false] at h ⊢
      exact List.mem_cons_of_mem _ (ih h)

/-- A grid that reads like a canonical one lists all its entries. -/
theorem Memory.wf_subset {d : Cell} {n : Nat} {m m' : Memory} (hm : Memory.wf d n m = true)
    (hget : ∀ i < n, Memory.get d i m' = Memory.get d i m) : m ⊆ m' := by
  obtain ⟨hrise, hentry⟩ := (Memory.wf_iff d n m).mp hm
  intro e he
  obtain ⟨hlt, hne⟩ := hentry e he
  have hread : Memory.get d e.1 m' = e.2 := (hget e.1 hlt).trans (Memory.get_of_mem hrise he)
  have hmem := Memory.mem_of_get_ne (hread.trans_ne hne)
  rwa [hread] at hmem

/-- Two canonical grids that read alike list the same entries, and both list them in rising order. -/
theorem Memory.wf_ext {d : Cell} {n : Nat} {m m' : Memory} (hm : Memory.wf d n m = true)
    (hm' : Memory.wf d n m' = true) (hget : ∀ i < n, Memory.get d i m' = Memory.get d i m) : m' = m := by
  have : Std.Asymm (fun a b : Nat × Cell => a.1 < b.1) := ⟨fun _ _ => lt_asymm⟩
  exact List.Subset.antisymm_of_pairwise ((Memory.wf_iff d n m').mp hm').1 ((Memory.wf_iff d n m).mp hm).1
    (Memory.wf_subset hm' fun i hi => (hget i hi).symm) (Memory.wf_subset hm hget)

/-- The cell stored at a row-major index is the one read at its address (20_memory.md R50). -/
theorem State.cellAt_div_mod (s : State) {i : Nat} (hi : i < s.size) :
    s.cellAt (i / s.params.cols) (i % s.params.cols) = some (Memory.get (resetCell s.params) i s.grid) := by
  have hpos : 0 < s.params.cols := Nat.pos_of_mul_pos_left (Nat.zero_lt_of_lt hi)
  rw [cellAt_of_inGrid s ((s.inGrid_iff _ _).mpr ⟨s.row_lt_of_index hi, Nat.mod_lt i hpos⟩), State.rawCell,
    s.index_of_div_mod]

/-- States with the same parameters whose canonical grids read alike hold the same grid (log 12). -/
theorem State.grid_eq_of_cellAt {s t : State} (hp : t.params = s.params) (hs : s.memWf = true) (ht : t.memWf = true)
    (hcell : ∀ r c, t.cellAt r c = s.cellAt r c) : t.grid = s.grid := by
  have hsize : t.size = s.size := by rw [State.size, hp, State.size]
  refine Memory.wf_ext hs (by rwa [State.memWf, hp, hsize] at ht) fun i hi => ?_
  have ht' := t.cellAt_div_mod (hsize ▸ hi)
  rw [hp, hcell, s.cellAt_div_mod hi] at ht'
  exact (Option.some.inj ht').symm

/-- Settles O30: a write is `Memory.set` at the row-major index, which no other address has; a constructed grid lists no cell;
and the entries of a canonical grid can be read off its cells. -/
theorem gridReadAfterWrite : Obligations.GridReadAfterWrite := by
  refine ⟨fun s r c v hin => ?_, fun p k r c hr hc => (construct_cellAt p k r c).trans (if_pos ⟨hr, hc⟩),
    fun _ _ => State.grid_eq_of_cellAt⟩
  obtain ⟨hr, hc⟩ := (s.inGrid_iff r c).mp hin
  exact ⟨_, memWrite_next s v hr hc, rfl, s.gridWf_write v hr hc, s.cellAt_write v hr hc⟩

end Sys2Proof.Machine
end

section
/-! SUPPORT. The parameter text of a CSI sequence (30_encoding.md R80): its fields are the pieces between the ';', a field's value
is its decimal value, and `ParseCSI` reads the fields after the marker up to the remainder. -/

namespace Sys2Proof

/-! ### Fields and their values -/

theorem splitFields_eq_splitOn (text : List Byte) : splitFields text = text.splitOn 0x3B := by
  induction text with
  | nil => rfl
  | cons b rest ih =>
    rw [splitFields, ih, List.splitOn, List.splitOn, List.splitOnP_cons_eq_if_modifyHead]
    cases hfields : List.splitOnP (· == 0x3B) rest with
    | nil => exact absurd hfields (List.splitOnP_ne_nil _ _)
    | cons f fs => rfl

theorem decValue_eq_ofDigits (digits : List Byte) :
    decValue digits = Nat.ofDigits 10 (digits.map (fun d => d.toNat - 0x30)).reverse := by
  rw [Nat.ofDigits_eq_foldr, List.foldr_reverse, List.foldl_map, decValue]
  simp only [Nat.cast_id, Nat.add_comm]

theorem decValue_concat (digits : List Byte) (d : Byte) :
    decValue (digits ++ [d]) = 10 * decValue digits + (d.toNat - 0x30) := by
  simp [decValue]

/-! ### The text of some fields -/

theorem isParamByte_of_isDigit {b : Byte} (h : isDigit b = true) : isParamByte b = true := by
  simp [isParamByte, h]

theorem intercalate_isParamByte {fields : List (List Byte)} (hdigits : ∀ f ∈ fields, ∀ d ∈ f, isDigit d = true) :
    ∀ b ∈ List.intercalate [0x3B] fields, isParamByte b = true := by
  induction fields with
  | nil => simp
  | cons f rest ih =>
    obtain ⟨hf, hrest⟩ := List.forall_mem_cons.mp hdigits
    have hfield : ∀ b ∈ f, isParamByte b = true := fun b hb => isParamByte_of_isDigit (hf b hb)
    cases rest with
    | nil => simpa using hfield
    | cons g rest =>
      rw [List.intercalate_cons_cons]
      exact List.forall_mem_append.mpr ⟨List.forall_mem_append.mpr ⟨hfield, by decide⟩, ih hrest⟩

theorem splitFields_intercalate {fields : List (List Byte)} (hdigits : ∀ f ∈ fields, ∀ d ∈ f, isDigit d = true)
    (hne : fields ≠ []) : splitFields (List.intercalate [0x3B] fields) = fields := by
  rw [splitFields_eq_splitOn]
  exact List.splitOn_intercalate _ (fun f hf hsep => absurd (hdigits f hf _ hsep) (by decide)) hne

theorem intercalate_eq_nil_iff {fields : List (List Byte)} (hdigits : ∀ f ∈ fields, ∀ d ∈ f, isDigit d = true)
    (hne : fields ≠ []) : List.intercalate [0x3B] fields = [] ↔ fields = [[]] := by
  constructor
  · intro h
    rw [← splitFields_intercalate hdigits hne, h, splitFields]
  · rintro rfl
    rfl

/-! ### `ParseCSI` -/

/-- The parameter list of a CSI body whose marker has been taken off (R80). -/
def unmarkedParams (body : List Byte) : List Nat :=
  if (body.takeWhile isParamByte).isEmpty then [] else (splitFields (body.takeWhile isParamByte)).map decValue

theorem parseParams_mark (body : List Byte) : parseParams (0x3F :: body) = unmarkedParams body := rfl

theorem parseParams_of_no_mark {body : List Byte} (h : body.head? ≠ some 0x3F) :
    parseParams body = unmarkedParams body := by
  cases body with
  | nil => rfl
  | cons b rest =>
    have hb : ¬(b == 0x3F) = true := by simpa using h
    rw [parseParams, if_neg hb, unmarkedParams]

section
variable {fields : List (List Byte)} {remainder : List Byte} (hdigits : ∀ f ∈ fields, ∀ d ∈ f, isDigit d = true)
  (hne : fields ≠ [])
include hdigits hne

/-- The parameter text is the longest leading run of digits and ';', so it ends where the remainder begins. -/
theorem unmarkedParams_fields (hstop : ∀ d, remainder.head? = some d → isParamByte d = false) :
    unmarkedParams (List.intercalate [0x3B] fields ++ remainder) =
      if fields = [[]] then [] else fields.map decValue := by
  have hrest : remainder.takeWhile isParamByte = [] := by
    cases remainder with
    | nil => rfl
    | cons d rest => exact List.takeWhile_cons_of_neg (by simp [hstop d rfl])
  have htext : (List.intercalate [0x3B] fields ++ remainder).takeWhile isParamByte = List.intercalate [0x3B] fields := by
    rw [List.takeWhile_append_of_pos (intercalate_isParamByte hdigits), hrest, List.append_nil]
  simp only [unmarkedParams, htext, List.isEmpty_iff, intercalate_eq_nil_iff hdigits hne,
    splitFields_intercalate hdigits hne]

/-- Fields with a byte between them begin with a digit or ';', so only a remainder can be taken for the marker. -/
theorem head_fields_ne_mark (h : fields ≠ [[]] ∨ remainder.head? ≠ some 0x3F) :
    (List.intercalate [0x3B] fields ++ remainder).head? ≠ some 0x3F := by
  cases htext : List.intercalate [0x3B] fields with
  | nil => exact h.resolve_left (not_not_intro ((intercalate_eq_nil_iff hdigits hne).mp htext))
  | cons b rest =>
    have hb := intercalate_isParamByte hdigits b (htext ▸ List.mem_cons_self)
    rintro ⟨⟩
    exact absurd hb (by decide)

end

/-- Settles O9: the last byte is the verb (`Machine.decodeSeq_csi`); the marker is dropped, the parameter text is the fields with
their separators, and splitting it gives the fields back. -/
theorem parameterTextIsRead : Obligations.ParameterTextIsRead := by
  refine ⟨fun body v hv => by rw [Machine.decodeSeq_csi, if_pos hv], ?_⟩
  intro fields mark remainder hdigits hmark hne hstop
  have hbody : parseParams (mark ++ List.intercalate [0x3B] fields ++ remainder) =
      unmarkedParams (List.intercalate [0x3B] fields ++ remainder) := by
    rcases hmark with rfl | ⟨rfl, hclear⟩
    · exact parseParams_mark _
    · exact parseParams_of_no_mark (head_fields_ne_mark hdigits hne hclear)
  rw [hbody, unmarkedParams_fields hdigits hne hstop, funext decValue_eq_ofDigits]

end Sys2Proof
end

section
/-! SUPPORT. The forms of the input stream (30_encoding.md R71 to R79): which text after ESC is one form, by the byte that opens
it, and that the decoder reads a form by the dispatch on that byte. -/

namespace Sys2Proof

/-! ### One form, by its first byte (R71 to R76) -/

/-- The text after ESC is one form of R71, complete or still open. -/
inductive OneForm : Byte → List Byte → Prop where
  | first {f : Byte} (hf : isGraphic f = true) : OneForm f []
  | second {f g : Byte} (hf : f ∈ [(0x23 : Byte), 0x28, 0x29]) (hg : isGraphic g = true) : OneForm f [g]
  | csi {body : List Byte} {v : Byte} (hbody : ∀ b ∈ body, isGraphic b = true ∧ isFinal b = false)
      (hv : isGraphic v = true) : OneForm 0x5B (body ++ [v])
  | osc {payload : List Byte} {t : Byte} (hpayload : ∀ b ∈ payload, isGraphic b = true)
      (ht : isGraphic t = true ∨ t = 0x07) : OneForm 0x5D (payload ++ [t])

theorem ite_some_eq_none {c : Prop} [Decidable c] {e : DecodeError} {x : Option DecodeError} :
    (if c then some e else x) = none ↔ ¬c ∧ x = none := by
  split <;> simp [*]

theorem seqError_nil {f : Byte} : seqError f [] = none ↔ isGraphic f = true := by
  revert f
  decide

theorem seqError_csi {body : List Byte} {v : Byte} : seqError 0x5B (body ++ [v]) = none ↔
    (∀ b ∈ body, isGraphic b = true ∧ isFinal b = false) ∧ isGraphic v = true := by
  have hlead : isGraphic 0x5B#8 = true := by decide
  simp [seqError, hlead, ite_some_eq_none, forall_and, and_right_comm]

theorem seqError_osc {payload : List Byte} {t : Byte} : seqError 0x5D (payload ++ [t]) = none ↔
    (∀ b ∈ payload, isGraphic b = true) ∧ (isGraphic t = true ∨ t = 0x07) := by
  have hlead : isGraphic 0x5D#8 = true := by decide
  by_cases ht : t = 0x07#8 <;> simp [seqError, hlead, ht]

/-- Of the other first bytes only '#', '(' and ')' take a further byte, and one (R72, R73). -/
theorem seqError_other {f t : Byte} {init : List Byte} (hcsi : f ≠ 0x5B) (hosc : f ≠ 0x5D) :
    seqError f (init ++ [t]) = none ↔ f ∈ [(0x23 : Byte), 0x28, 0x29] ∧ init = [] ∧ isGraphic t = true := by
  have hgraphic : ∀ f ∈ [(0x23 : Byte), 0x28, 0x29], isGraphic f = true := by decide
  simp only [BitVec.ofNat_eq_ofNat] at hcsi hosc
  by_cases hf : f ∈ [(0x23 : Byte), 0x28, 0x29]
  · have hg := hgraphic f hf
    simp only [BitVec.ofNat_eq_ofNat, List.mem_cons, List.not_mem_nil, or_false] at hf
    cases init <;> simp [seqError, hg, hcsi, hosc, hf, or_assoc, ite_some_eq_none]
  · simp only [BitVec.ofNat_eq_ofNat, List.mem_cons, List.not_mem_nil, or_false, not_or] at hf
    simp [seqError, hcsi, hosc, hf, ite_some_eq_none]

theorem seqError_eq_none_iff {f : Byte} {rest : List Byte} : seqError f rest = none ↔ OneForm f rest := by
  constructor
  · intro h
    rcases List.eq_nil_or_concat' rest with rfl | ⟨init, t, rfl⟩
    · exact .first (seqError_nil.mp h)
    by_cases hcsi : f = 0x5B
    · subst hcsi
      obtain ⟨hbody, hv⟩ := seqError_csi.mp h
      exact .csi hbody hv
    by_cases hosc : f = 0x5D
    · subst hosc
      obtain ⟨hpayload, ht⟩ := seqError_osc.mp h
      exact .osc hpayload ht
    obtain ⟨hf, rfl, hg⟩ := (seqError_other hcsi hosc).mp h
    exact .second hf hg
  · rintro (hf | ⟨hf, hg⟩ | ⟨hbody, hv⟩ | ⟨hpayload, ht⟩)
    · exact seqError_nil.mpr hf
    · exact (seqError_other (init := []) (by rintro rfl; exact absurd hf (by decide))
        (by rintro rfl; exact absurd hf (by decide))).mpr ⟨hf, rfl, hg⟩
    · exact seqError_csi.mpr ⟨hbody, hv⟩
    · exact seqError_osc.mpr ⟨hpayload, ht⟩

theorem formError_eq_none_iff {l : List Byte} : formError l = none ↔
    (∃ b, l = [b]) ∨ (∃ f rest, l = 0x9B :: f :: rest ∧ OneForm 0x5B (f :: rest)) ∨
    (∃ f rest, l = 0x1B :: f :: rest ∧ OneForm f rest) := by
  match l with
  | [] => simp [formError]
  | [b] => simp [formError]
  | lead :: f :: rest =>
    by_cases hcsi8 : lead = 0x9B#8 <;> by_cases hesc : lead = 0x1B#8 <;>
      simp [formError, ← seqError_eq_none_iff, hcsi8, hesc]

theorem formError_escape {f : Byte} {rest : List Byte} (h : OneForm f rest) : formError (0x1B :: f :: rest) = none :=
  formError_eq_none_iff.mpr (.inr (.inr ⟨f, rest, rfl, h⟩))

theorem decode_bytes_iff {l : List Byte} {i : Instr} :
    decode (.bytes l) = .ok i ↔ formError l = none ∧ decodeAny l = i := by
  rw [decode]
  cases formError l <;> simp

theorem decode_escape {f : Byte} {rest : List Byte} (h : OneForm f rest) :
    decode (.bytes (0x1B :: f :: rest)) = .ok (decodeSeq f rest) :=
  decode_bytes_iff.mpr ⟨formError_escape h, rfl⟩

end Sys2Proof
end

section
/-! SUPPORT. Decoding the encoding (30_encoding.md R70 to R89): the encoder's decimal digits have the value they were written
from, so `ParseCSI` reads its parameter text as the list, and every well-formed instruction comes back. -/

namespace Sys2Proof

/-! ### Decimal digits (R80, `Dec`) -/

theorem digit_value (k : Nat) (h : k < 10) :
    isDigit (BitVec.ofNat 8 (0x30 + k)) = true ∧ (BitVec.ofNat 8 (0x30 + k)).toNat - 0x30 = k := by
  interval_cases k <;> decide

theorem decimalWithin_isDigit (fuel n : Nat) : ∀ d ∈ decimalWithin fuel n, isDigit d = true := by
  induction fuel generalizing n with
  | zero => exact List.forall_mem_singleton.mpr (digit_value _ (Nat.mod_lt _ (by decide))).1
  | succ fuel ih =>
    rw [decimalWithin]
    split
    · next hn => exact List.forall_mem_singleton.mpr (digit_value n hn).1
    · exact List.forall_mem_append.mpr
        ⟨ih _, List.forall_mem_singleton.mpr (digit_value _ (Nat.mod_lt _ (by decide))).1⟩

/-- A number has no more digits than its value. -/
theorem decValue_decimalWithin {fuel n : Nat} (h : n ≤ fuel) : decValue (decimalWithin fuel n) = n := by
  induction fuel generalizing n with
  | zero =>
    cases Nat.le_zero.mp h
    rfl
  | succ fuel ih =>
    rw [decimalWithin]
    split
    · next hn => exact (decValue_concat [] _).trans ((Nat.zero_add _).trans (digit_value n hn).2)
    · rw [decValue_concat, ih (by omega), (digit_value _ (Nat.mod_lt _ (by decide))).2, Nat.div_add_mod]

theorem decValue_decimal : Function.LeftInverse decValue decimal :=
  fun _ => decValue_decimalWithin le_rfl

theorem decimal_ne_nil (n : Nat) : decimal n ≠ [] := by
  cases n with
  | zero => exact List.cons_ne_nil _ _
  | succ n =>
    rw [decimal, decimalWithin]
    split
    · exact List.cons_ne_nil _ _
    · exact List.append_ne_nil_of_right_ne_nil _ (List.cons_ne_nil _ _)

theorem paramText_eq_intercalate (ps : List Nat) : paramText ps = List.intercalate [0x3B] (ps.map decimal) := by
  induction ps with
  | nil => rfl
  | cons p rest ih =>
    cases rest with
    | nil => simp [paramText]
    | cons q rest => simp [paramText, ih, List.intercalate_cons_cons]

theorem parseParams_paramText (ps : List Nat) : parseParams (paramText ps) = ps := by
  cases ps with
  | nil => rfl
  | cons p rest =>
    have hdigits : ∀ f ∈ (p :: rest).map decimal, ∀ d ∈ f, isDigit d = true :=
      List.forall_mem_map.mpr fun n _ => decimalWithin_isDigit n n
    have hne : (p :: rest).map decimal ≠ [] := List.cons_ne_nil _ _
    have hsome : (p :: rest).map decimal ≠ [[]] := fun h => decimal_ne_nil p (List.cons.inj h).1
    have hhead := head_fields_ne_mark (remainder := []) hdigits hne (.inl hsome)
    have hread := unmarkedParams_fields (remainder := []) hdigits hne nofun
    rw [List.append_nil, ← paramText_eq_intercalate] at hhead hread
    rw [parseParams_of_no_mark hhead, hread, if_neg hsome, List.map_map, decValue_decimal.comp_eq_id, List.map_id]

/-! ### CSI commands (R74, R85) -/

theorem isGraphic_of_isFinal : ∀ v : Byte, isFinal v = true → isGraphic v = true := by
  decide

theorem decode_csiBytes (ps : List Nat) {v : Byte} (hv : isFinal v = true) :
    decode (csiBytes ps v) = .ok (decodeVerb ps v) := by
  have hread : decodeAny (0x1B :: 0x5B :: (paramText ps ++ [v])) = decodeVerb ps v :=
    (Machine.decodeSeq_csi (paramText ps) v).trans (by rw [if_pos hv, parseParams_paramText])
  exact decode_bytes_iff.mpr ⟨formError_csiBytes ps v (isGraphic_of_isFinal v hv), hread⟩

/-- `commandOf` and `decodeVerb` agree on every verb (R85). -/
theorem decode_command {i : Instr} {ps : List Nat} {v : Byte} (h : Machine.commandOf i = some (ps, v)) :
    decode (encode i) = .ok i := by
  unfold Machine.commandOf at h
  split at h <;> cases h <;> exact decode_csiBytes _ (by decide)

theorem decodeVerb_of_notMem {v : Byte} (ps : List Nat) (h : v ∉ csiVerbs) : decodeVerb ps v = .csiUnrecognised v := by
  unfold decodeVerb
  split
  case h_27 => rfl
  all_goals
    next hv =>
      exact absurd ((List.mem_map_of_injective fun _ _ => BitVec.eq_of_toNat_eq).mp (hv ▸ by decide)) h

theorem decode_csiUnrecognised {v : Byte} (h : WellFormed (.csiUnrecognised v) = true) :
    decode (encode (.csiUnrecognised v)) = .ok (.csiUnrecognised v) := by
  obtain ⟨hv, hverb⟩ := Bool.and_eq_true_iff.mp h
  exact (decode_csiBytes [] hv).trans (congrArg Except.ok (decodeVerb_of_notMem [] (by simpa using hverb)))

/-! ### Operands that are one byte (R70, R72 to R76) -/

theorem decodeByte_of_isGraphic : ∀ b : Byte, isGraphic b = true → decodeByte b = .print b := by
  decide

theorem decodeSeq_of_notMem : ∀ f : Byte, f ∉ escapeLeads → decodeSeq f [] = .escUnrecognised f := by
  decide

theorem isGraphic_ne_bel {b : Byte} (h : isGraphic b = true) : b ≠ 0x07 := by
  rintro rfl
  cases h

theorem decode_print {b : Byte} (h : WellFormed (.print b) = true) : decode (encode (.print b)) = .ok (.print b) :=
  congrArg Except.ok (decodeByte_of_isGraphic b h)

theorem decode_escUnrecognised {f : Byte} (h : WellFormed (.escUnrecognised f) = true) :
    decode (encode (.escUnrecognised f)) = .ok (.escUnrecognised f) := by
  obtain ⟨hf, hlead⟩ := Bool.and_eq_true_iff.mp h
  exact (decode_escape (.first hf)).trans (congrArg Except.ok (decodeSeq_of_notMem f (by simpa using hlead)))

theorem decode_escHashOther {f : Byte} (h : WellFormed (.escHashOther (some f)) = true) :
    decode (encode (.escHashOther (some f))) = .ok (.escHashOther (some f)) := by
  obtain ⟨hf, hne⟩ := Bool.and_eq_true_iff.mp h
  exact (decode_escape (.second (by decide) hf)).trans (congrArg Except.ok (if_neg (by simpa using hne)))

theorem decode_csi {b : Byte} (h : WellFormed (.csi (some b)) = true) :
    decode (encode (.csi (some b))) = .ok (.csi (some b)) := by
  obtain ⟨hb, hfinal⟩ := Bool.and_eq_true_iff.mp h
  exact (decode_escape (.csi (body := []) nofun hb)).trans (congrArg Except.ok (if_neg (by simpa using hfinal)))

theorem decode_osc {t : Byte} (h : WellFormed (.osc (some t)) = true) :
    decode (encode (.osc (some t))) = .ok (.osc (some t)) :=
  (decode_escape (.osc (payload := []) nofun (.inl h))).trans
    (congrArg Except.ok (if_neg (by simpa using isGraphic_ne_bel h)))

/-! ### Parameter values (R86) -/

theorem decodeSgrParam_of_notMem {p : Nat} (h : p ∉ sgrValues) : decodeSgrParam p = .sgrIgnored p := by
  by_cases hp : p ≤ 49
  · have hsmall : ∀ p ≤ 49, p ∉ sgrValues → decodeSgrParam p = .sgrIgnored p := by decide
    exact hsmall p hp h
  · unfold decodeSgrParam
    repeat rw [if_neg (by omega)]

theorem decodeSmParam_of_notMem {p : Nat} (h : p ∉ smValues) : decodeSmParam p = .smIgnored p := by
  unfold decodeSmParam
  split
  case h_12 => rfl
  all_goals exact absurd (by decide) h

theorem sgrOperand_le {p : Nat} : ∀ i ∈ [Instr.sgrBold p, .sgrReverse p, .sgrBoldOff p, .sgrFg p, .sgrBg p],
    WellFormed i = true → p ≤ 47 := by
  simp [WellFormed]
  omega

/-- Up to 47 stand all the values of the rows with an operand, each row tried with each number. -/
theorem decode_sgrOperand_of_le : ∀ p ≤ 47, ∀ i ∈ [Instr.sgrBold p, .sgrReverse p, .sgrBoldOff p, .sgrFg p, .sgrBg p],
    WellFormed i = true → decode (encode i) = .ok i := by
  decide

theorem decode_sgrOperand {p : Nat} {i : Instr}
    (hi : i ∈ [Instr.sgrBold p, .sgrReverse p, .sgrBoldOff p, .sgrFg p, .sgrBg p]) (h : WellFormed i = true) :
    decode (encode i) = .ok i :=
  decode_sgrOperand_of_le p (sgrOperand_le i hi h) i hi h

theorem decode_sgrIgnored {p : Nat} (h : WellFormed (.sgrIgnored p) = true) :
    decode (encode (.sgrIgnored p)) = .ok (.sgrIgnored p) :=
  congrArg Except.ok (decodeSgrParam_of_notMem (by simpa [WellFormed] using h))

theorem decode_smIgnored {p : Nat} (h : WellFormed (.smIgnored p) = true) :
    decode (encode (.smIgnored p)) = .ok (.smIgnored p) :=
  congrArg Except.ok (decodeSmParam_of_notMem (by simpa [WellFormed] using h))

theorem decode_rmIgnored {p : Nat} (h : WellFormed (.rmIgnored p) = true) :
    decode (encode (.rmIgnored p)) = .ok (.rmIgnored p) :=
  congrArg Except.ok (if_neg (by simpa [WellFormed] using h))

/-! ### Key events (R88, R89) -/

theorem decode_keyReleased {k : KeyIdent} (m : Mods) (h : WellFormed (.keyReleased k m) = true) :
    decode (encode (.keyReleased k m)) = .ok (.keyReleased k m) :=
  if_pos h

/-! ### Every instruction -/

theorem decode_encode {i : Instr} (h : WellFormed i = true) : decode (encode i) = .ok i := by
  cases i with
  | print b => exact decode_print h
  | escUnrecognised f => exact decode_escUnrecognised h
  | escHashOther o =>
    cases o with
    | none => rfl
    | some f => exact decode_escHashOther h
  | scsG0 o | scsG1 o =>
    cases o with
    | none => rfl
    | some f => exact decode_escape (.second (by decide) h)
  | csi o =>
    cases o with
    | none => rfl
    | some b => exact decode_csi h
  | osc o =>
    cases o with
    | none => rfl
    | some t => exact decode_osc h
  | csiUnrecognised v => exact decode_csiUnrecognised h
  | sgr ps | sm ps | rm ps | ed ps | cup ps | hvp ps | cuu ps | cud ps | cuf ps | cub ps | cnl ps | cpl ps | cha ps | vpr ps
  | hpr ps | vpa ps | hpa ps | el ps | ich ps | dch ps | il ps | dl ps | ech ps | decstbm ps => exact decode_command rfl
  | scp | rcp => exact decode_command rfl
  | sgrBold p | sgrReverse p | sgrBoldOff p | sgrFg p | sgrBg p => exact decode_sgrOperand (p := p) (by simp) h
  | sgrIgnored p => exact decode_sgrIgnored h
  | smIgnored p => exact decode_smIgnored h
  | rmIgnored p => exact decode_rmIgnored h
  | keyReleased k m => exact decode_keyReleased m h
  | _ => rfl

/-- Settles O7: a CSI command through the parameter text that the encoder writes, a one-byte operand and a parameter value
through its class, and every other form by its table row. -/
theorem decodeInvertsEncode : Obligations.DecodeInvertsEncode :=
  fun _ => decode_encode

end Sys2Proof
end

section
/-! SUPPORT. What the decoder accepts is well-formed, and a sequence in progress with the arriving byte is one form
(30_encoding.md R71, R79; 10_state.md R31). -/

namespace Sys2Proof

/-! ### What is read from a form is well-formed -/

theorem wellFormed_decodeByte : ∀ b : Byte, WellFormed (decodeByte b) = true := by
  decide

theorem wellFormed_decodeSeq_first : ∀ f : Byte, isGraphic f = true → WellFormed (decodeSeq f []) = true := by
  decide

theorem wellFormed_decodeSeq_second : ∀ f ∈ [(0x23 : Byte), 0x28, 0x29], ∀ g : Byte, isGraphic g = true →
    WellFormed (decodeSeq f [g]) = true := by
  decide

/-- The parameters make no difference, so the verbs are tried with none. -/
theorem wellFormed_decodeVerb (ps : List Nat) {v : Byte} (hv : isFinal v = true) : WellFormed (decodeVerb ps v) = true := by
  have hempty : WellFormed (decodeVerb [] v) = true := by
    revert v
    decide
  rw [← hempty]
  unfold decodeVerb
  split <;> rfl

theorem wellFormed_decodeSeq {f : Byte} {rest : List Byte} (h : OneForm f rest) : WellFormed (decodeSeq f rest) = true := by
  cases h with
  | first hf => exact wellFormed_decodeSeq_first f hf
  | second hf hg => exact wellFormed_decodeSeq_second f hf _ hg
  | csi hbody hv =>
    rw [Machine.decodeSeq_csi]
    split
    · next hfinal => exact wellFormed_decodeVerb _ hfinal
    · next hfinal => simp [WellFormed, hv, hfinal]
  | osc hpayload ht =>
    rw [Machine.decodeSeq_osc]
    split
    · rfl
    · next hend => exact ht.resolve_right fun hbel => hend (beq_iff_eq.mpr hbel)

theorem wellFormed_decodeAny {l : List Byte} (h : formError l = none) : WellFormed (decodeAny l) = true := by
  rcases formError_eq_none_iff.mp h with ⟨b, rfl⟩ | ⟨f, rest, rfl, hform⟩ | ⟨f, rest, rfl, hform⟩
  · exact wellFormed_decodeByte b
  · exact wellFormed_decodeSeq hform
  · exact wellFormed_decodeSeq hform

theorem wellFormed_decodeSgrParam (p : Nat) : WellFormed (decodeSgrParam p) = true := by
  by_cases h : p ∈ sgrValues
  · revert p
    decide
  · simpa [decodeSgrParam_of_notMem h, WellFormed] using h

theorem wellFormed_decodeSmParam (p : Nat) : WellFormed (decodeSmParam p) = true := by
  by_cases h : p ∈ smValues
  · revert p
    decide
  · simpa [decodeSmParam_of_notMem h, WellFormed] using h

theorem wellFormed_decodeRmParam (p : Nat) : WellFormed (decodeRmParam p) = true := by
  unfold decodeRmParam
  split
  · rfl
  · next h => exact bne_iff_ne.mpr h

theorem wellFormed_of_decodeKey {ev : KeyEvent} {i : Instr} (h : decodeKey ev = .ok i) : WellFormed i = true := by
  unfold decodeKey at h
  split at h
  · unfold decodePressed at h
    split at h <;> cases h <;> rfl
  · split at h <;> cases h
    assumption

theorem wellFormed_of_decode : ∀ {c : Code} {i : Instr}, decode c = .ok i → WellFormed i = true
  | .bytes _, _, h => by
    obtain ⟨hform, rfl⟩ := decode_bytes_iff.mp h
    exact wellFormed_decodeAny hform
  | .param .sgr none, _, rfl => rfl
  | .param .sgr (some p), _, rfl => wellFormed_decodeSgrParam p
  | .param .sm (some p), _, rfl => wellFormed_decodeSmParam p
  | .param .rm (some p), _, rfl => wellFormed_decodeRmParam p
  | .key _, _, h => wellFormed_of_decodeKey h

end Sys2Proof

namespace Sys2Proof.Machine

/-! ### The text that a step fetches (R79) -/

theorem oneForm_further {f b : Byte} {rest : List Byte} (hshape : accShape (f :: rest) = true)
    (hb : isGraphic b = true) : OneForm f (rest ++ [b]) := by
  rcases accShape_cons hshape with ⟨rfl, hbody⟩ | ⟨rfl, hpayload⟩ | ⟨hf, rfl⟩
  · exact .csi hbody hb
  · exact .osc hpayload (.inl hb)
  · exact .second (by simpa using hf) hb

theorem formError_fetchText {s : State} (hshape : accShape s.acc = true) (b : Byte) : formError (fetchText b s) = none := by
  unfold fetchText
  split
  · rfl
  split
  · next hend =>
    simp only [State.endsOsc, Bool.and_eq_true, beq_iff_eq] at hend
    obtain ⟨⟨-, hhead⟩, rfl⟩ := hend
    obtain ⟨payload, hacc⟩ := List.head?_eq_some_iff.mp hhead
    have hpayload : ∀ b ∈ payload, isGraphic b = true := by simpa [hacc, accShape] using hshape
    rw [hacc]
    exact formError_escape (.osc hpayload (.inr rfl))
  split
  · rfl
  split
  · next h0 _ hc _ =>
    have hb := isGraphic_of_not_control h0 hc
    match hacc : s.acc with
    | [] => exact formError_escape (.first hb)
    | f :: rest => exact formError_escape (oneForm_further (hacc ▸ hshape) hb)
  · rfl

/-- Settles O8: what is read from one form is well-formed, and the accumulator of the invariant with a further byte is one form. -/
theorem decoderIsSound : Obligations.DecoderIsSound :=
  ⟨fun _ _ => wellFormed_of_decode, fun _ b hinv => decode_bytes_iff.mpr ⟨formError_fetchText hinv.accForm b, rfl⟩⟩

end Sys2Proof.Machine
end

section
/-! SUPPORT. The obligations of 30_encoding.md about sample words and the pseudo-instructions of R92: 0x9B leaves the parser as the
two bytes ESC [ do, and the other aliases run one operation. -/

namespace Sys2Proof.Machine

/-- Settles O6: the decoder evaluates on each word. -/
theorem sampleWordsDecode : Obligations.SampleWordsDecode := by
  unfold Obligations.SampleWordsDecode
  decide

/-! ### 0x9B and ESC [ (40_parser_control.md R115, R116; 41_escape.md R141) -/

theorem run_succ (M : Host.Core) {s t : M.State} (n : Nat) (h : M.step s = .next t) : M.run (n + 1) s = M.run n t := by
  simp only [Host.Core.run, h]

/-- A control byte other than BEL is read alone in every parser state (40_parser_control.md R100). -/
theorem fetchInstr_control {b : Byte} (s : State) (hb : isControl b = true) (hbel : b ≠ 0x07) :
    fetchInstr b s = decodeByte b := by
  have hend : s.endsOsc b = false := by rw [State.endsOsc, beq_eq_false_iff_ne.mpr hbel, Bool.and_false]
  have htext : fetchText b s = [b] := by simp only [fetchText, hend, hb, if_true, Bool.false_eq_true, if_false, ite_self]
  exact congrArg decodeAny htext

/-- `ACC_CAP` is at least 2, so the first byte of a sequence does not reach the bound (R104). -/
theorem accumulate_first {s : State} (b : Byte) (hok : s.params.ok = true) (hacc : s.acc = []) :
    accumulate b s = s.setParser s.word.esc [b] := by
  obtain ⟨-, -, hcap, -⟩ := Params.ok_iff.mp hok
  have hlength : (push b s).acc.length ≠ (push b s).params.accCap := by
    simp only [push_acc, hacc, push_params, List.nil_append, List.length_singleton]
    omega
  rw [accumulate, boundCheck, decide_eq_false hlength, Bool.and_false, if_neg Bool.false_ne_true, push, hacc]
  rfl

section
variable {s : State} {rest : List HostCall} (hok : s.params.ok = true)
include hok

theorem step_csi8 (hcalls : s.calls = .byte 0x9B :: rest) :
    step s = .next ((s.setCalls rest).setParser true [0x5B]) := by
  rw [step_byte hok hcalls, fetchInstr_control _ (by decide) (by decide)]
  rfl

theorem step_esc (hcalls : s.calls = .byte 0x1B :: rest) :
    step s = .next ((s.setCalls rest).setParser true []) := by
  rw [step_byte hok hcalls, fetchInstr_control _ (by decide) (by decide)]
  rfl

theorem step_introducer (hcalls : s.calls = .byte 0x5B :: rest) (hesc : s.word.esc = true) (hacc : s.acc = []) :
    step s = .next ((s.setCalls rest).setParser true [0x5B]) := by
  have htext : fetchText 0x5B (s.setCalls rest) = [0x1B, 0x5B] := by
    simp [fetchText, State.endsOsc, isControl, hesc, hacc]
  have happend : accumulate 0x5B (s.setCalls rest) = (s.setCalls rest).setParser true [0x5B] :=
    hesc ▸ accumulate_first (s := s.setCalls rest) 0x5B hok hacc
  rw [step_byte hok hcalls, fetchInstr, htext, ← happend]
  rfl

end

theorem run_csi8 {s : State} (hok : s.params.ok = true) (rest : List HostCall) :
    core.run 1 (s.setCalls (.byte 0x9B :: rest)) = core.run 2 (s.setCalls (.byte 0x1B :: .byte 0x5B :: rest)) := by
  have hcsi8 := step_csi8 (s := s.setCalls (.byte 0x9B :: rest)) hok rfl
  have hesc := step_esc (s := s.setCalls (.byte 0x1B :: .byte 0x5B :: rest)) hok rfl
  have hopen := step_introducer (s := (s.setCalls (.byte 0x5B :: rest)).setParser true []) hok rfl rfl rfl
  exact (run_succ core 0 hcsi8).trans ((run_succ core 1 hesc).trans (run_succ core 0 hopen)).symm

/-! ### CUP without parameters (43_csi.md R166) -/

theorem clampTo_of_nonpos {v : Int} (h : v ≤ 0) (hi : Nat) : clampTo v hi = 0 := by
  simp only [clampTo]
  omega

theorem cursorTo_of_nonpos {r c : Int} (hr : r ≤ 0) (hc : c ≤ 0) (s : State) : cursorTo r c s = cursorTo 0 0 s := by
  simp only [cursorTo, clampTo_of_nonpos hr, clampTo_of_nonpos hc, clampTo_of_nonpos le_rfl]

/-- Settles O59: 0x9B by `run_csi8`; CUP to 0 ; 0 by the clamp; of the others the two sides are one operation. -/
theorem aliases : Obligations.Aliases := by
  refine ⟨fun s rest hok => run_csi8 hok rest, fun s ps => ⟨rfl, rfl, rfl, rfl, rfl, rfl⟩, fun s => ⟨rfl, ?_, rfl⟩,
    fun s => ⟨rfl, rfl, rfl, rfl⟩, fun s => ⟨rfl, rfl, rfl⟩⟩
  have hclamp : cursorPosition [0, 0] s = cursorPosition [1, 1] s := cursorTo_of_nonpos (by decide) (by decide) s
  exact congrArg (fun t => thenCancel (.next t)) hclamp.symm

end Sys2Proof.Machine
end

section
/-! SUPPORT. The obligations of 40_parser_control.md about the control characters (R101, R102, R105 to R119): a control byte
that does not end an OSC is read alone, and its instruction does what the spec's `Control(b)` does. -/

namespace Sys2Proof.Machine

/-! ### Which instruction an arriving byte runs (R100, R102) -/

theorem endsOsc_iff {s : State} {b : Byte} :
    s.endsOsc b = true ↔ s.word.esc = true ∧ s.acc.head? = some 0x5D ∧ b = 0x07 := by
  simp [State.endsOsc, and_assoc]

theorem fetchInstr_nul (s : State) : fetchInstr 0x00 s = .nul := rfl

theorem fetchInstr_of_endsOsc {s : State} {b : Byte} (h : s.endsOsc b = true) : fetchInstr b s = .oscEnd := by
  obtain ⟨-, hhead, rfl⟩ := endsOsc_iff.mp h
  obtain ⟨payload, hacc⟩ := List.head?_eq_some_iff.mp hhead
  have htext : fetchText 0x07 s = 0x1B :: 0x5D :: (payload ++ [0x07]) := by
    rw [fetchText, if_neg (by decide), if_pos h, hacc, List.cons_append]
  exact (congrArg decodeAny htext).trans (decodeSeq_osc payload 0x07)

theorem fetchInstr_of_isControl {s : State} {b : Byte} (hb : isControl b = true) (h : s.endsOsc b = false) :
    fetchInstr b s = decodeByte b := by
  have htext : fetchText b s = [b] := by simp [fetchText, h, hb]
  exact congrArg decodeAny htext

/-! ### NUL and the unassigned C0 bytes (R101, R119) -/

/-- The instructions NUL and C0-NOP-01 to C0-NOP-1F. -/
def inertInstrs : List Instr :=
  [.nul, .c0Nop01, .c0Nop02, .c0Nop03, .c0Nop04, .c0Nop05, .c0Nop06, .c0Nop10, .c0Nop11, .c0Nop12,
    .c0Nop13, .c0Nop14, .c0Nop15, .c0Nop16, .c0Nop17, .c0Nop19, .c0Nop1C, .c0Nop1D, .c0Nop1E, .c0Nop1F]

/-- NUL and the unassigned C0 bytes. -/
def inertBytes : List Byte :=
  [0x00, 0x01, 0x02, 0x03, 0x04, 0x05, 0x06, 0x10, 0x11, 0x12, 0x13, 0x14, 0x15, 0x16, 0x17, 0x19,
    0x1C, 0x1D, 0x1E, 0x1F]

theorem exec_inert (s : State) : ∀ i ∈ inertInstrs, exec i s = .next s := by
  intro i hi
  fin_cases hi <;> rfl

theorem decodeByte_inert : ∀ b ∈ inertBytes, decodeByte b ∈ inertInstrs := by
  decide

theorem inertBytes_cases : ∀ b ∈ inertBytes, b = 0x00 ∨ (isControl b = true ∧ b ≠ 0x07) := by
  decide

theorem fetchInstr_inert (s : State) {b : Byte} (hb : b ∈ inertBytes) : fetchInstr b s ∈ inertInstrs := by
  rcases inertBytes_cases b hb with rfl | ⟨hcontrol, hbel⟩
  · rw [fetchInstr_nul]
    decide
  · rw [fetchInstr_control s hcontrol hbel]
    exact decodeByte_inert b hb

/-- Settles O31: each of these bytes is read alone, and none of the instructions does anything. -/
theorem noEffectBytes : Obligations.NoEffectBytes := by
  refine ⟨fun i hi s => exec_inert s i hi, fun b hb s rest hok hcalls => ?_⟩
  rw [step_byte hok hcalls]
  exact exec_inert _ _ (fetchInstr_inert _ hb)

/-! ### `Control(b)` (R105) -/

theorem controlByte_inert (s : State) : ∀ b ∈ inertBytes, controlByte b s = .next s := by
  intro b hb
  fin_cases hb <;> rfl

/-- The control bytes that do something. -/
def effectControls : List Byte :=
  [0x07, 0x08, 0x09, 0x0A, 0x0B, 0x0C, 0x0D, 0x0E, 0x0F, 0x18, 0x1A, 0x1B, 0x9B]

theorem isControl_cases : ∀ b : Byte, isControl b = true → b ∈ inertBytes ∨ b ∈ effectControls := by
  decide

theorem exec_decodeByte_of_isControl {b : Byte} (s : State) (hb : isControl b = true) :
    exec (decodeByte b) s = controlByte b s := by
  rcases isControl_cases b hb with hnone | hsome
  · rw [exec_inert s _ (decodeByte_inert b hnone), controlByte_inert s b hnone]
  · fin_cases hsome <;> rfl

/-! ### BEL (R102, R106) -/

/-- Settles O32: BEL is read alone unless it ends an OSC, where it is OSC-END. -/
theorem bellAndOscEnd : Obligations.BellAndOscEnd := by
  refine ⟨fun s => ⟨rfl, rfl⟩, fun s rest hok hcalls => ⟨fun hesc hhead => ?_, fun hfree => ?_⟩⟩
  · have hend : (s.setCalls rest).endsOsc 0x07 = true := endsOsc_iff.mpr ⟨hesc, hhead, rfl⟩
    rw [step_byte hok hcalls, fetchInstr_of_endsOsc hend]
    rfl
  · have hend : (s.setCalls rest).endsOsc 0x07 = false := by
      refine eq_false_of_ne_true fun h => ?_
      obtain ⟨hesc, hhead, -⟩ := endsOsc_iff.mp h
      rcases hfree with hnormal | hother
      · exact absurd (hesc.symm.trans hnormal) (by decide)
      · exact hother hhead
    rw [step_byte hok hcalls, fetchInstr_of_isControl (by decide) hend]
    rfl

/-! ### CSI8, ESC, CAN and SUB (R115 to R118) -/

/-- Settles O33: the four bytes are read alone in every parser state. -/
theorem parserBytes : Obligations.ParserBytes := by
  refine ⟨fun s => ⟨rfl, rfl, rfl, rfl⟩, fun s rest hok => ⟨step_csi8 hok, step_esc hok, ?_⟩⟩
  rintro (hcalls | hcalls) <;>
  · rw [step_byte hok hcalls, fetchInstr_control _ (by decide) (by decide)]
    rfl

theorem ParserEffect.eq_of_keeps {m t : State} {i : Instr} (h : ParserEffect m i t) (hends : endsSequence i = false)
    (hesc : i ≠ .esc) (hcsi8 : i ≠ .csi8) (happend : appendedByte i = none) : t = m := by
  cases h with
  | keeps => rfl
  | ends hi => exact absurd (hi.symm.trans hends) (by decide)
  | startsEsc => exact absurd rfl hesc
  | startsCsi => exact absurd rfl hcsi8
  | appends hb => exact absurd (hb.symm.trans happend) nofun

theorem decodeByte_keepsParser : ∀ b : Byte, isControl b = true → b ≠ 0x1B → b ≠ 0x9B → b ≠ 0x18 → b ≠ 0x1A →
    endsSequence (decodeByte b) = false ∧ decodeByte b ≠ .esc ∧ decodeByte b ≠ .csi8 := by
  decide

/-- Settles O26: the byte is read alone, and of the instructions read from a control byte only those of ESC, CSI8, CAN and SUB
have an effect on the parser. -/
theorem controlBytesKeepTheSequence : Obligations.ControlBytesKeepTheSequence := by
  intro s t b rest hcalls h hb hesc hcsi8 hcan hsub hend
  rw [step_byte (step_params_ok h) hcalls, fetchInstr_of_isControl (s := s.setCalls rest) hb hend] at h
  obtain ⟨hopen, hnone⟩ := decodeByte_open b
  obtain ⟨m, he, hp⟩ := exec_effect _ _ hopen t h
  obtain ⟨hends, hne, hne'⟩ := decodeByte_keepsParser b hb hesc hcsi8 hcan hsub
  obtain rfl := hp.eq_of_keeps hends hne hne' hnone
  exact he.parser

/-! ### BS, HT, CR, SO and SI (R107, R108, R112 to R114) -/

theorem backspace_eq (c : Nat) : (if 0 < c then c - 1 else c) = c - 1 := by
  split <;> omega

theorem tabStop_eq {stop c : Nat} (hdvd : 8 ∣ stop) (hlt : c < stop) (hle : stop ≤ c + 8) : (c / 8 + 1) * 8 = stop := by
  omega

/-- Settles O34: the stop of HT is the only multiple of 8 in the 8 columns after the cursor. -/
theorem cursorAndShiftControls : Obligations.CursorAndShiftControls := by
  refine fun s => ⟨?_, fun stop hdvd hlt hle => ?_, rfl, rfl, rfl⟩
  · rw [← backspace_eq]
    rfl
  · rw [← tabStop_eq hdvd hlt hle]
    rfl

/-! ### LF, VT and FF (R109 to R111) -/

theorem lineFeed_eq (s : State) :
    lineFeed s = index (s.setCursor s.row (if s.word.modes.lnm then 0 else s.col)) := by
  unfold lineFeed
  split <;> rfl

/-- The cells that `Index` leaves at the bottom margin are those of the region moved up by one row. -/
theorem shiftedUp_one {s t : State} {top bot : Nat} (hbot : bot < s.params.rows)
    (hcells : ∀ r c, t.cellAt r c =
      if top ≤ r ∧ r ≤ bot then
        (if r + 1 ≤ bot then s.cellAt (r + 1) c else if c < s.params.cols then some s.blank else none)
      else s.cellAt r c) : ShiftedUp top bot 1 s t := by
  intro r c
  rw [hcells]
  by_cases hregion : top ≤ r ∧ r ≤ bot
  · by_cases hc : c < s.params.cols
    · have hin : s.inGrid r c = true ∧ top ≤ r ∧ r ≤ bot := ⟨(s.inGrid_iff r c).mpr ⟨by omega, hc⟩, hregion⟩
      rw [if_pos hregion, if_pos hin, if_pos hc]
    · have hnone : ∀ i, s.cellAt i c = none := fun i => if_neg fun h => hc ((s.inGrid_iff i c).mp h).2
      have hout : ¬(s.inGrid r c = true ∧ top ≤ r ∧ r ≤ bot) := fun h => hc ((s.inGrid_iff r c).mp h.1).2
      rw [if_pos hregion, if_neg hout, if_neg hc, hnone, hnone, ite_self]
  · have hout : ¬(s.inGrid r c = true ∧ top ≤ r ∧ r ≤ bot) := fun h => hregion h.2
    rw [if_neg hregion, if_neg hout]

theorem nextRow_eq {r rows : Nat} (h : r < rows) : (if r + 1 < rows then r + 1 else r) = min (r + 1) (rows - 1) := by
  split <;> omega

/-- Settles O35: each of the three is `Index` after the return of the column. -/
theorem lineFeeds : Obligations.LineFeeds := by
  intro i hi s hinv
  have hexec : exec i s = lineFeed s := by fin_cases hi <;> rfl
  rw [hexec, lineFeed_eq]
  generalize hcol : (if s.word.modes.lnm then 0 else s.col) = c
  refine ⟨fun hrow => ?_, fun hrow => ?_⟩
  · obtain ⟨t, ht, hframe, -, hcells⟩ :=
      index_scroll (s.setCursor s.row c) hrow hinv.regionLe hinv.scrollMaxLt
    exact ⟨t, ht, hframe, shiftedUp_one hinv.scrollMaxLt hcells⟩
  · rw [index_move (s.setCursor s.row c) hrow, ← nextRow_eq hinv.rowLt]
    rfl

end Sys2Proof.Machine
end

section
/-! SUPPORT. The decoded step is the spec's `ByteStep` (40_parser_control.md R100, R104, R105; 41_escape.md R131). A byte of a
sequence in progress runs its instruction before the append, where `Append(b)` interprets after it: no operation reads the
accumulator, so the order makes no difference once the sequence has ended. -/

namespace Sys2Proof.Machine

/-! ### A byte that leaves its sequence open (R104) -/

theorem exec_open {i : Instr} {b : Byte} (hb : appendedByte i = some b) (hi : CsiOperandOpen i) (s : State) :
    exec i s = .next (accumulate b s) := by
  unfold appendedByte at hb
  split at hb <;> cases hb
  case h_5 => exact if_neg (by simp [hi b rfl])
  all_goals rfl

theorem accumulate_of_lt {s : State} (b : Byte) (h : s.acc.length + 1 < s.params.accCap) :
    accumulate b s = push b s := by
  refine boundCheck_open _ (.inr ?_)
  simp only [push_acc, List.length_append, List.length_singleton, push_params]
  omega

theorem accumulate_of_full {s : State} (b : Byte) (hesc : s.word.esc = true)
    (h : s.acc.length + 1 = s.params.accCap) : accumulate b s = cancel s :=
  boundCheck_full (push b s) hesc (by simpa using h)

/-- Settles O40: each of these instructions is `Append(b)` of its byte, which the bound check then cancels or leaves. -/
theorem openSequences : Obligations.OpenSequences := by
  intro s b _ hesc e he
  have hopen : appendedByte e.1 = some e.2 ∧ CsiOperandOpen e.1 := by
    rcases List.mem_append.mp he with he | he
    · fin_cases he <;> exact ⟨rfl, nofun⟩
    · split at he
      · cases he
      · next hb =>
        obtain rfl := List.mem_singleton.mp he
        refine ⟨rfl, fun v hv => ?_⟩
        cases hv
        exact eq_false_of_ne_true hb
  rw [exec_open hopen.1 hopen.2]
  refine ⟨fun hlt => ?_, fun hfull => ?_⟩
  · rw [accumulate_of_lt _ hlt]
    rfl
  · rw [accumulate_of_full _ hesc hfull]
    rfl

/-! ### `Append(b)` (R104), by what `Interpret()` answers -/

/-- The operation reads neither the parser state nor the streams nor the pending calls. -/
def Commutes (f : State → Out) : Prop :=
  ∀ (T : Patch) (s : State), f (T.ap s) = mapNext T.ap (f s)

theorem commutes_next {f : State → State} (h : ∀ (T : Patch) (s : State), f (T.ap s) = T.ap (f s)) :
    Commutes (fun s => .next (f s)) :=
  fun T s => congrArg Host.Outcome.next (h T s)

/-- The patch that appends `b` to the accumulator of `s`. -/
def pushPatch (b : Byte) (s : State) : Patch :=
  { fe := id, fa := (· ++ [b]), es := [], bs := [], cs := s.calls }

theorem thenCancel_push {f : State → Out} (hf : Commutes f) (b : Byte) (s : State) :
    thenCancel (f (push b s)) = thenCancel (f s) := by
  have hpush : f (push b s) = mapNext (pushPatch b s).ap (f s) := hf (pushPatch b s) s
  have hsame : f s = mapNext (streamPatch [] [] s.calls).ap (f s) := hf (streamPatch [] [] s.calls) s
  rw [hpush]
  conv_rhs => rw [hsame]
  cases f s <;> rfl

theorem boundCheck_thenCancel (o : Out) : andThen (thenCancel o) (fun t => .next (boundCheck t)) = thenCancel o := by
  cases o with
  | next s => simp only [thenCancel_next, andThen_next, boundCheck_cancel]
  | fault r | refused r => rfl

section
variable {b : Byte} {s : State}

theorem appendByte_of_ends {f : State → Out} (hf : Commutes f)
    (h : interpret (push b s) = thenCancel (f (push b s))) : appendByte b s = thenCancel (f s) := by
  rw [appendByte, h, boundCheck_thenCancel, thenCancel_push hf]

theorem appendByte_of_cancel (h : interpret (push b s) = .next (cancel (push b s))) :
    appendByte b s = .next (cancel s) :=
  appendByte_of_ends (f := .next) (fun _ _ => rfl) h

theorem appendByte_of_open (h : interpret (push b s) = .next (push b s)) : appendByte b s = .next (accumulate b s) := by
  rw [appendByte, h]
  rfl

/-! ### The dispatch on the first byte (41_escape.md R131) -/

theorem csiVerb_of_notMem {v : Byte} (ps : List Nat) (s : State) (h : v ∉ csiVerbs) : csiVerb ps v s = .next s := by
  unfold csiVerb
  split
  case h_27 => rfl
  all_goals
    next hv =>
      exact absurd ((List.mem_map_of_injective fun _ _ => BitVec.eq_of_toNat_eq).mp (hv ▸ by decide)) h

theorem exec_decodeVerb (ps : List Nat) (v : Byte) (s : State) :
    exec (decodeVerb ps v) s = thenCancel (csiVerb ps v s) := by
  by_cases hv : v ∈ csiVerbs
  · fin_cases hv <;> rfl
  · rw [decodeVerb_of_notMem ps hv, csiVerb_of_notMem ps s hv]
    rfl

theorem decodeSeq_of_not_lead {f : Byte} (rest : List Byte) (hf : f ∉ escapeLeads) :
    decodeSeq f rest = .escUnrecognised f := by
  unfold decodeSeq
  split
  case h_11 => rfl
  all_goals
    next hlead =>
      exact absurd ((List.mem_map_of_injective fun _ _ => BitVec.eq_of_toNat_eq).mp (hlead ▸ by decide)) hf

theorem interpret_of_not_lead {s : State} {f : Byte} {rest : List Byte} (h : s.acc = f :: rest) (hf : f ∉ escapeLeads) :
    interpret s = .next (cancel s) := by
  simp only [escapeLeads, List.mem_cons, List.not_mem_nil, or_false, not_or] at hf
  simp only [interpret, h, hf, or_self, if_false]

/-- The arriving byte is the first byte of its sequence, or a further one. -/
theorem push_acc_cases {f : Byte} {rest : List Byte} (h : (push b s).acc = f :: rest) :
    (b = f ∧ rest = []) ∨ ∃ init, rest = init ++ [b] := by
  rw [push_acc] at h
  cases hacc : s.acc with
  | nil =>
    rw [hacc] at h
    obtain ⟨hf, hrest⟩ := List.cons.inj h
    exact .inl ⟨hf, hrest.symm⟩
  | cons g init =>
    rw [hacc] at h
    exact .inr ⟨init, (List.cons.inj h).2.symm⟩

theorem eq_of_push_acc {f : Byte} (h : (push b s).acc = [f]) : b = f := by
  rcases push_acc_cases h with ⟨hf, -⟩ | ⟨init, hinit⟩
  · exact hf
  · exact absurd hinit (by simp)

/-- '#', '(', ')', '[' and ']' take a further byte. -/
theorem exec_decodeSeq_lead {f : Byte} (hf : f ∈ [(0x23 : Byte), 0x28, 0x29, 0x5B, 0x5D]) (h : (push b s).acc = [f]) :
    exec (decodeSeq f []) s = appendByte b s := by
  have hopen : interpret (push b s) = .next (push b s) := by
    rw [interpret, h]
    fin_cases hf <;> rfl
  rw [appendByte_of_open hopen, eq_of_push_acc h]
  fin_cases hf <;> rfl

theorem exec_decodeSeq_hash {rest : List Byte} (h : (push b s).acc = 0x23 :: rest) :
    exec (decodeSeq 0x23 rest) s = appendByte b s := by
  cases rest with
  | nil => exact exec_decodeSeq_lead (by decide) h
  | cons g tail =>
    by_cases hg : g = 0x38
    · subst hg
      exact (appendByte_of_ends (commutes_next align_ap) (by rw [interpret, h]; rfl)).symm
    · have hdecode : decodeSeq 0x23 (g :: tail) = .escHashOther (some g) := if_neg (by simpa using hg)
      rw [hdecode]
      exact (appendByte_of_cancel (by rw [interpret, h]; exact if_neg hg)).symm

theorem exec_decodeSeq_scs {f : Byte} {rest : List Byte} (hf : f = 0x28 ∨ f = 0x29) (h : (push b s).acc = f :: rest) :
    exec (decodeSeq f rest) s = appendByte b s := by
  cases rest with
  | nil => exact exec_decodeSeq_lead (by rcases hf with rfl | rfl <;> decide) h
  | cons g tail =>
    rcases hf with rfl | rfl <;>
    exact (appendByte_of_cancel (by rw [interpret, h]; rfl)).symm

theorem exec_decodeSeq_csi {rest : List Byte} (h : (push b s).acc = 0x5B :: rest) :
    exec (decodeSeq 0x5B rest) s = appendByte b s := by
  rcases push_acc_cases h with ⟨-, rfl⟩ | ⟨body, rfl⟩
  · exact exec_decodeSeq_lead (by decide) h
  have hdispatch : interpret (push b s) =
      if isFinal b then thenCancel (csiDispatch (body ++ [b]) (push b s)) else .next (push b s) := by
    rw [interpret, h]
    simp
  rw [decodeSeq_csi]
  split
  · next hb =>
    have hverb : ∀ u, csiDispatch (body ++ [b]) u = csiVerb (parseParams body) b u := by simp [csiDispatch]
    rw [exec_decodeVerb]
    exact (appendByte_of_ends (fun T s => csiVerb_ap T s _ b) (by rw [hdispatch, if_pos hb, hverb])).symm
  · next hb =>
    rw [appendByte_of_open (hdispatch.trans (if_neg hb))]
    exact if_neg hb

theorem exec_decodeSeq_osc {rest : List Byte} (h : (push b s).acc = 0x5D :: rest) (hb : b ≠ 0x07) :
    exec (decodeSeq 0x5D rest) s = appendByte b s := by
  rcases push_acc_cases h with ⟨-, rfl⟩ | ⟨payload, rfl⟩
  · exact exec_decodeSeq_lead (by decide) h
  · rw [decodeSeq_osc, if_neg (by simpa using hb), appendByte_of_open (by rw [interpret, h]; rfl)]
    rfl

/-- The branches of R131: D, E, M, 7 and 8 run their operation, the other leads as above, any other byte cancels. -/
theorem exec_decodeSeq {f : Byte} {rest : List Byte} (h : (push b s).acc = f :: rest) (hb : b ≠ 0x07) :
    exec (decodeSeq f rest) s = appendByte b s := by
  by_cases hf : f ∈ escapeLeads
  · simp only [escapeLeads, List.mem_cons, List.not_mem_nil, or_false] at hf
    rcases hf with rfl | rfl | rfl | rfl | rfl | rfl | rfl | rfl | rfl | rfl
    · exact (appendByte_of_ends index_ap (by rw [interpret, h]; rfl)).symm
    · exact (appendByte_of_ends (f := fun s => index (s.setCursor s.row 0))
        (fun T s => index_ap T (s.setCursor s.row 0)) (by rw [interpret, h]; rfl)).symm
    · exact (appendByte_of_ends reverseIndex_ap (by rw [interpret, h]; rfl)).symm
    · exact (appendByte_of_ends (commutes_next (f := saveCursor) fun _ _ => rfl) (by rw [interpret, h]; rfl)).symm
    · exact (appendByte_of_ends (commutes_next restore_ap) (by rw [interpret, h]; rfl)).symm
    · exact exec_decodeSeq_hash h
    · exact exec_decodeSeq_scs (.inl rfl) h
    · exact exec_decodeSeq_scs (.inr rfl) h
    · exact exec_decodeSeq_csi h
    · exact exec_decodeSeq_osc h hb
  · rw [decodeSeq_of_not_lead rest hf]
    exact (appendByte_of_cancel (interpret_of_not_lead h hf)).symm

end

/-! ### `ByteStep(b)` (R100) -/

theorem isGraphic_not_control : ∀ b : Byte, isGraphic b = true → b ≠ 0x00 ∧ b ≠ 0x07 ∧ isControl b = false := by
  decide

theorem fetchInstr_of_esc {s : State} {b : Byte} (hb : isGraphic b = true) (hesc : s.word.esc = true) :
    fetchInstr b s = decodeAny (0x1B :: (s.acc ++ [b])) := by
  obtain ⟨h0, hbel, hcontrol⟩ := isGraphic_not_control b hb
  have htext : fetchText b s = 0x1B :: (s.acc ++ [b]) := by
    rw [fetchText, if_neg (by simpa using h0), if_neg (fun h => hbel (endsOsc_iff.mp h).2.2), if_neg (by simp [hcontrol]),
      if_pos hesc]
  exact congrArg decodeAny htext

theorem fetchInstr_of_normal {s : State} (b : Byte) (hesc : s.word.esc = false) : fetchInstr b s = decodeByte b := by
  have htext : fetchText b s = [b] := by simp [fetchText, State.endsOsc, hesc]
  exact congrArg decodeAny htext

theorem exec_fetchInstr_of_esc {s : State} {b : Byte} (hb : isGraphic b = true) (hesc : s.word.esc = true) :
    exec (fetchInstr b s) s = appendByte b s := by
  rw [fetchInstr_of_esc hb hesc]
  match htext : s.acc ++ [b] with
  | [] => exact absurd htext (by simp)
  | f :: rest => exact exec_decodeSeq htext (isGraphic_not_control b hb).2.1

theorem exec_fetchInstr (b : Byte) (s : State) : exec (fetchInstr b s) s = byteStep b s := by
  unfold byteStep
  split
  · next h0 =>
    rw [h0, fetchInstr_nul]
    rfl
  next h0 =>
  split
  · next hend =>
    rw [fetchInstr_of_endsOsc hend]
    rfl
  next hend =>
  split
  · next hcontrol =>
    rw [fetchInstr_of_isControl hcontrol (eq_false_of_ne_true hend)]
    exact exec_decodeByte_of_isControl s hcontrol
  next hcontrol =>
  have hb : isGraphic b = true := isGraphic_of_not_control (by simpa using h0) hcontrol
  split
  · next hesc => exact exec_fetchInstr_of_esc hb hesc
  · next hesc =>
    rw [fetchInstr_of_normal b (eq_false_of_ne_true hesc), decodeByte_of_isGraphic b hb]
    rfl

/-- Settles O13: the instruction that a byte fetches does what `ByteStep` does, branch by branch. -/
theorem stepIsByteStep : Obligations.StepIsByteStep :=
  fun s b rest hok hcalls => (step_byte hok hcalls).trans (exec_fetchInstr b (s.setCalls rest))

end Sys2Proof.Machine
end

section
/-! SUPPORT. The obligation about `render(buf)` (40_parser_control.md R120): a byte step neither reads nor writes the calls that are
still pending, so a run over the calls of a buffer is the byte steps of its bytes. -/

namespace Sys2Proof.Machine

theorem byteStep_setCalls (b : Byte) (s : State) (l : List HostCall) :
    byteStep b (s.setCalls l) = mapNext (·.setCalls l) (byteStep b s) := by
  rw [← exec_fetchInstr, ← exec_fetchInstr]
  exact exec_unread (fetchInstr b s) [] [] l s

theorem byteStep_keeps {b : Byte} {s t : State} (h : byteStep b s = .next t) :
    t.params = s.params ∧ t.calls = s.calls := by
  rw [← exec_fetchInstr] at h
  obtain ⟨m, he, hp⟩ := exec_effect s _ (decodeAny_open _) t h
  refine ⟨?_, exec_calls h⟩
  rw [hp.frame]
  exact he.params

theorem byteSteps_keeps {buf : List Byte} {s t : State} (h : byteSteps buf s = .next t) :
    t.params = s.params ∧ t.calls = s.calls := by
  induction buf generalizing s with
  | nil =>
    obtain rfl := next_inj h
    exact ⟨rfl, rfl⟩
  | cons b buf ih =>
    obtain ⟨m, hm, ht⟩ := andThen_eq_next.mp h
    obtain ⟨hparams, hcalls⟩ := byteStep_keeps hm
    obtain ⟨hparams', hcalls'⟩ := ih ht
    exact ⟨hparams'.trans hparams, hcalls'.trans hcalls⟩

theorem byteSteps_append (xs ys : List Byte) (s : State) :
    byteSteps (xs ++ ys) s = andThen (byteSteps xs s) (byteSteps ys) := by
  induction xs generalizing s with
  | nil => rfl
  | cons b xs ih =>
    show andThen (byteStep b s) (byteSteps (xs ++ ys)) = andThen (andThen (byteStep b s) (byteSteps xs)) (byteSteps ys)
    rw [andThen_assoc, funext ih]

theorem core_run_succ (n : Nat) (s : State) : core.run (n + 1) s = andThen (step s) (core.run n) := by
  cases h : step s with
  | next t => exact run_succ core n h
  | fault r | refused r =>
    have hcore : core.step s = _ := h
    simp only [Host.Core.run, hcore]
    rfl

theorem run_render {s : State} (buf : List Byte) (hok : s.params.ok = true) (hcalls : s.calls = []) :
    core.run buf.length (s.setCalls (render (some buf))) = byteSteps buf s := by
  induction buf generalizing s with
  | nil =>
    show Host.Outcome.next (s.setCalls []) = .next s
    rw [← hcalls]
    rfl
  | cons b buf ih =>
    have hstep : step (s.setCalls (render (some (b :: buf)))) = byteStep b (s.setCalls (render (some buf))) :=
      stepIsByteStep (s.setCalls (render (some (b :: buf)))) b _ hok rfl
    rw [List.length_cons, core_run_succ, hstep, byteStep_setCalls, byteSteps]
    cases hm : byteStep b s with
    | fault r | refused r => rfl
    | next m =>
      obtain ⟨hparams, hrest⟩ := byteStep_keeps hm
      exact ih (hparams ▸ hok) (hrest.trans hcalls)

/-- Settles O15: a run over a buffer's calls is its byte steps (`run_render`), and the byte steps of two buffers are those of the
first, then those of the second. -/
theorem renderIsByteSteps : Obligations.RenderIsByteSteps := by
  have hrun : ∀ (s : State) (buf : List Byte), s.params.ok = true →
      core.run buf.length (s.setCalls (render (some buf))) = byteSteps buf (s.setCalls []) :=
    fun s buf hok => run_render (s := s.setCalls []) buf hok rfl
  refine ⟨hrun, fun s t xs ys hok hxs => ?_, rfl, fun s hok => ?_⟩
  · have hfirst : byteSteps xs (s.setCalls []) = .next t := (hrun s xs hok).symm.trans hxs
    obtain ⟨hparams, hcalls⟩ := byteSteps_keeps hfirst
    refine (hrun s (xs ++ ys) hok).trans ?_
    rw [byteSteps_append, hfirst]
    exact (run_render ys (hparams ▸ hok) hcalls).symm
  · exact if_pos hok

end Sys2Proof.Machine
end

section
/-! SUPPORT. The obligations of 41_escape.md: an instruction that completes a sequence runs its operation and then `Cancel()`
(R131), and the bytes of an OSC are appended until its BEL drops them (R142). -/

namespace Sys2Proof.Machine

/-! ### Sequences without a meaning (R138 to R140, R143; 43_csi.md R188) -/

/-- Settles O39: `Cancel()` is the whole operation of each of the five. -/
theorem cancelledSequences : Obligations.CancelledSequences := by
  intro s f i hi
  fin_cases hi <;> rfl

/-! ### Saving and restoring (R135, R136; 43_csi.md R186, R187) -/

theorem runAll_pair {i j : Instr} {s t : State} :
    runAll [i, j] s = .next t ↔ ∃ m, exec i s = .next m ∧ exec j m = .next t := by
  have hlast : ∀ m, runAll [j] m = exec j m := fun m => by
    cases h : exec j m <;> simp [runAll, h, andThen]
  rw [runAll, andThen_eq_next]
  simp only [hlast]

theorem exec_decsc (s : State) : exec .decsc s = .next (cancel (saveCursor s)) := rfl

theorem exec_decrc (s : State) : exec .decrc s = .next (cancel (restoreCursor s)) := rfl

theorem exec_scp (s : State) : exec .scp s = .next (cancel
    (if s.params.sharedSaveSlot then s.setSavePos s.row s.col else s.setCsr s.row s.col)) := rfl

theorem exec_rcp (s : State) : exec .rcp s = .next (cancel
    ((if s.params.sharedSaveSlot then s.setCursor s.saveRow s.saveCol
      else s.setCursor s.csrRow s.csrCol).emit .invCursor)) := rfl

theorem decsc_decrc_restores {s t : State} (h : runAll [.decsc, .decrc] s = .next t) :
    t.row = s.row ∧ t.col = s.col ∧ t.curAttr = s.curAttr ∧ t.word.altcs = s.word.altcs := by
  obtain ⟨m, hsave, hrestore⟩ := runAll_pair.mp h
  rw [exec_decsc] at hsave
  rw [exec_decrc] at hrestore
  rw [← next_inj hrestore, ← next_inj hsave]
  simp [restoreCursor, saveCursor]

/-- RCP after SCP reads the slot that SCP wrote, whichever one `SHARED_SAVE_SLOT` selects. -/
theorem scp_rcp_restores {s t : State} (h : runAll [.scp, .rcp] s = .next t) : t.row = s.row ∧ t.col = s.col := by
  obtain ⟨m, hsave, hrestore⟩ := runAll_pair.mp h
  rw [exec_scp] at hsave
  rw [exec_rcp] at hrestore
  rw [← next_inj hrestore, ← next_inj hsave]
  cases hshared : s.params.sharedSaveSlot <;> simp [hshared]

/-- Settles O37: each instruction is its named updates, SCP and RCP by the value of `SHARED_SAVE_SLOT`. -/
theorem saveAndRestore : Obligations.SaveAndRestore := by
  refine ⟨fun s => ⟨rfl, rfl, ?_, ?_⟩, fun s t => decsc_decrc_restores, fun s t => scp_rcp_restores⟩
  · rw [exec_scp]
    split <;> rfl
  · rw [exec_rcp]
    split <;> rfl

/-! ### DECALN (R137) -/

/-- Settles O38: the grid is written at once, so every address reads its cell and the form is canonical. -/
theorem alignmentTest : Obligations.AlignmentTest := by
  refine fun s => ⟨cancel (alignmentFill s), rfl, rfl, fun r c => ?_, Memory.wf_tabulate _ _ _⟩
  exact s.cellAt_fillGrid (fun _ _ => { ch := s.params.decalnChar, attr := { s.curAttr with altcs := false } }) r c

/-! ### IND, NEL and RI (R132 to R134) -/

/-- The cells of `ShiftDown` inside the grid are those of the region moved down. -/
theorem shiftedDown_of_cells {s t : State} {top bot n : Nat} (hbot : bot < s.params.rows)
    (hcells : ∀ r c, t.cellAt r c =
      if top ≤ r ∧ r ≤ bot then
        (if top + n ≤ r then s.cellAt (r - n) c else if c < s.params.cols then some s.blank else none)
      else s.cellAt r c) : ShiftedDown top bot n s t := by
  intro r c
  rw [hcells]
  by_cases hc : c < s.params.cols
  · have hregion : top ≤ r ∧ r ≤ bot ↔ s.inGrid r c = true ∧ top ≤ r ∧ r ≤ bot :=
      ⟨fun h => ⟨(s.inGrid_iff r c).mpr ⟨by omega, hc⟩, h⟩, And.right⟩
    rw [if_pos hc]
    exact if_congr hregion rfl rfl
  · have hout : ∀ i, s.inGrid i c = false := fun i => eq_false_of_ne_true fun h => hc ((s.inGrid_iff i c).mp h).2
    simp [State.cellAt, hout, hc]

/-- IND and NEL are `Index()` at the column `c` that they set, then `Cancel()`. -/
theorem index_cancel (s : State) (c : Nat) (hinv : StateInv s) :
    (s.row = s.scrollMax →
      ∃ t, thenCancel (index (s.setCursor s.row c)) = .next t ∧
        t = { s with col := c, grid := t.grid, sink := s.sink ++ [.invScreen],
                     word := { s.word with esc := false }, acc := [] } ∧
        ShiftedUp s.scrollMin s.scrollMax 1 s t) ∧
    (s.row ≠ s.scrollMax →
      thenCancel (index (s.setCursor s.row c)) = .next
        { s with col := c, row := min (s.row + 1) (s.params.rows - 1), sink := s.sink ++ [.invCursor],
                 word := { s.word with esc := false }, acc := [] }) := by
  refine ⟨fun hrow => ?_, fun hrow => ?_⟩
  · obtain ⟨t, ht, hframe, -, hcells⟩ :=
      index_scroll (s.setCursor s.row c) hrow hinv.regionLe hinv.scrollMaxLt
    refine ⟨cancel t, by rw [ht, thenCancel_next], congrArg cancel hframe, ?_⟩
    exact shiftedUp_one hinv.scrollMaxLt hcells
  · rw [index_move (s.setCursor s.row c) hrow, ← nextRow_eq hinv.rowLt]
    rfl

/-- Settles O36: IND and NEL by `index_cancel`, RI by the two cases of `ReverseIndex()`. -/
theorem indexEscapes : Obligations.IndexEscapes := by
  refine ⟨fun s hinv e he => ?_, fun s hinv => ⟨fun hrow => ?_, fun hrow => ?_⟩⟩
  · have hexec : exec e.1 s = thenCancel (index (s.setCursor s.row e.2)) := by fin_cases he <;> rfl
    rw [hexec]
    exact index_cancel s e.2 hinv
  · obtain ⟨t, ht, hframe, -, hcells⟩ := reverseIndex_scroll s hrow hinv.regionLe hinv.scrollMaxLt
    exact ⟨cancel t, congrArg thenCancel ht, congrArg cancel hframe, shiftedDown_of_cells hinv.scrollMaxLt hcells⟩
  · rw [← backspace_eq s.row]
    exact congrArg thenCancel (reverseIndex_move s hrow)

/-! ### The final byte of a CSI sequence (R141; 43_csi.md R160) -/

theorem isGraphic_of_isFinal : ∀ b : Byte, isFinal b = true → isGraphic b = true := by
  decide

theorem fetchInstr_csi_final {s : State} {v : Byte} {body : List Byte} (hv : isFinal v = true)
    (hesc : s.word.esc = true) (hacc : s.acc = 0x5B :: body) :
    fetchInstr v s = decodeVerb (parseParams body) v := by
  calc fetchInstr v s = decodeSeq 0x5B (body ++ [v]) := by
        rw [fetchInstr_of_esc (isGraphic_of_isFinal v hv) hesc, hacc]
        rfl
    _ = decodeVerb (parseParams body) v := by rw [decodeSeq_csi, if_pos hv]

theorem csiDispatch_append (body : List Byte) (v : Byte) (s : State) :
    csiDispatch (body ++ [v]) s = csiVerb (parseParams body) v s := by
  simp [csiDispatch]

theorem exec_csi_final {s : State} {v : Byte} {body : List Byte} (hv : isFinal v = true)
    (hacc : s.acc = 0x5B :: body) : exec (.csi (some v)) s = exec (decodeVerb (parseParams body) v) s := by
  calc exec (.csi (some v)) s = thenCancel (csiDispatch (s.acc.tail ++ [v]) s) := if_pos hv
    _ = thenCancel (csiVerb (parseParams body) v s) := by rw [hacc, List.tail_cons, csiDispatch_append]
    _ = exec (decodeVerb (parseParams body) v) s := (exec_decodeVerb _ v s).symm

/-- Settles O41: the decoder reads the verb of the whole body, and every verb's instruction is `csiVerb`, then `Cancel()`. -/
theorem csiFinalByte : Obligations.CsiFinalByte := by
  refine fun s v body hv hesc hacc => ⟨fetchInstr_csi_final hv hesc hacc, exec_csi_final hv hacc, fun t ht => ?_⟩
  rw [exec_decodeVerb] at ht
  obtain ⟨m, -, rfl⟩ := thenCancel_eq_next.mp ht
  exact ⟨rfl, rfl⟩

/-! ### OSC (R142; 40_parser_control.md R102) -/

theorem byteStep_esc (s : State) : byteStep 0x1B s = .next (s.setParser true []) := by
  rw [← exec_fetchInstr, fetchInstr_control s (by decide) (by decide)]
  rfl

/-- A graphic byte of an OSC, its `]` included, is appended below the bound. -/
theorem byteStep_osc {s : State} {b : Byte} {acc rest : List Byte} (hb : isGraphic b = true)
    (htext : acc ++ [b] = 0x5D :: rest) (hlt : acc.length + 1 < s.params.accCap) :
    byteStep b (s.setParser true acc) = .next (s.setParser true (acc ++ [b])) := by
  have hopen : interpret (push b (s.setParser true acc)) = .next (push b (s.setParser true acc)) := by
    rw [interpret, push_acc, State.setParser_acc, htext]
    rfl
  rw [← exec_fetchInstr, exec_fetchInstr_of_esc hb rfl, appendByte_of_open hopen,
    accumulate_of_lt (s := s.setParser true acc) b hlt]
  rfl

theorem byteSteps_osc (s : State) {payload acc : List Byte} (hgraphic : ∀ b ∈ payload, isGraphic b = true)
    (hlen : acc.length + payload.length + 2 ≤ s.params.accCap) :
    byteSteps payload (s.setParser true (0x5D :: acc)) = .next (s.setParser true (0x5D :: (acc ++ payload))) := by
  induction payload generalizing acc with
  | nil => rw [List.append_nil]; rfl
  | cons b rest ih =>
    obtain ⟨hb, hrest⟩ := List.forall_mem_cons.mp hgraphic
    rw [List.length_cons] at hlen
    have hstep : byteStep b (s.setParser true (0x5D :: acc)) = .next (s.setParser true (0x5D :: (acc ++ [b]))) :=
      byteStep_osc hb rfl (by rw [List.length_cons]; omega)
    have hlen' : (acc ++ [b]).length + rest.length + 2 ≤ s.params.accCap := by
      rw [List.length_append, List.length_singleton]
      omega
    rw [byteSteps, hstep, andThen_next, ih hrest hlen', List.append_assoc, List.singleton_append]

theorem byteStep_oscEnd (s : State) (payload : List Byte) :
    byteStep 0x07 (s.setParser true (0x5D :: payload)) = .next (s.setParser false []) := rfl

/-- Settles O29: ESC and `]` open the sequence, the payload stays below the bound, BEL drops it, and the parser is back where
the invariant has it outside a sequence. -/
theorem oscIsSilent : Obligations.OscIsSilent := by
  intro s payload hinv hesc hgraphic hlen
  have hsteps : byteSteps (0x1B :: 0x5D :: (payload ++ [0x07])) (s.setCalls []) =
      .next ((s.setCalls []).setParser false []) := by
    have hlead : byteStep 0x5D ((s.setCalls []).setParser true []) = .next ((s.setCalls []).setParser true [0x5D]) :=
      byteStep_osc (by decide) rfl (by simp only [List.length_nil, State.setCalls_params]; omega)
    have hpayload : byteSteps payload ((s.setCalls []).setParser true [0x5D]) =
        .next ((s.setCalls []).setParser true (0x5D :: payload)) :=
      byteSteps_osc (s.setCalls []) hgraphic (by simpa using hlen)
    rw [byteSteps, byteStep_esc, andThen_next, byteSteps, hlead, andThen_next, byteSteps_append, hpayload, andThen_next,
      byteSteps, byteStep_oscEnd]
    rfl
  have hnormal : (s.setCalls []).setParser false [] = s.setCalls [] := by
    rw [← hesc, ← hinv.accNormal hesc]
    rfl
  have hrun := run_render (s := s.setCalls []) (0x1B :: 0x5D :: (payload ++ [0x07])) hinv.paramsOk rfl
  have hlength : (0x1B :: 0x5D :: (payload ++ [0x07]) : List Byte).length = payload.length + 3 := by simp
  rw [hsteps, hnormal, hlength] at hrun
  exact hrun

end Sys2Proof.Machine
end

section
/-! SUPPORT. The obligations of 42_putchar.md: Put-Char is the resolution of a pending wrap (R151), one cell written at the cursor
(R152) and the advance (R153). -/

namespace Sys2Proof.Machine

theorem exec_print (b : Byte) (s : State) : exec (.print b) s = putChar b s := rfl

/-! ### The write (R152) -/

/-- What Put-Char leaves in a cell that held `old`: a byte outside `ALTCS_SET` does not replace the character. -/
def glyphCell (b : Byte) (rejected : Bool) (s : State) (old : Cell) : Cell :=
  if rejected then { ch := old.ch, attr := { s.curAttr with altcs := true } }
  else { ch := b, attr := { s.curAttr with altcs := s.word.altcs } }

theorem writeGlyph_eq {s : State} {b : Byte} {rejected silent : Bool}
    (hrejected : rejected = (s.word.altcs && !s.params.altcsSet.contains b))
    (hsilent : silent = (rejected && !s.params.altcsRejectWritesAttr)) :
    writeGlyph b s =
      if silent then .next s else writeAtCursor (glyphCell b rejected s (s.rawCell s.row s.col)) s := by
  rw [writeGlyph, ← hrejected, hsilent]
  cases rejected with
  | false => rfl
  | true => cases s.params.altcsRejectWritesAttr <;> rfl

/-- Storing at the cursor a cell computed from the one that stands there. -/
theorem writeAtCursor_update (s : State) (f : Cell → Cell) (hin : s.inGrid s.row s.col = true) :
    ∃ t, writeAtCursor (f (s.rawCell s.row s.col)) s = .next t ∧
      t = (s.setGrid t.grid).emit (.invCell s.row s.col) ∧
      ∀ r c, t.cellAt r c = if r = s.row ∧ c = s.col then (s.cellAt r c).map f else s.cellAt r c := by
  obtain ⟨t, ht, hframe, -, hcells⟩ := writeAtCursor_next s (f (s.rawCell s.row s.col)) hin
  refine ⟨t, ht, hframe, fun r c => (hcells r c).trans (ite_congr rfl (fun hcursor => ?_) fun _ => rfl)⟩
  rw [hcursor.1, hcursor.2, cellAt_of_inGrid s hin, Option.map_some]

/-- The write reports the cursor cell and changes no other; a silent one does nothing. -/
theorem writeGlyph_next {s : State} {b : Byte} {rejected silent : Bool} (hin : s.inGrid s.row s.col = true)
    (hrejected : rejected = (s.word.altcs && !s.params.altcsSet.contains b))
    (hsilent : silent = (rejected && !s.params.altcsRejectWritesAttr)) :
    ∃ t, writeGlyph b s = .next t ∧
      t = (s.setGrid t.grid).emitAll (if silent then [] else [.invCell s.row s.col]) ∧
      ∀ r c, t.cellAt r c =
        if r = s.row ∧ c = s.col ∧ silent = false then (s.cellAt r c).map (glyphCell b rejected s)
        else s.cellAt r c := by
  rw [writeGlyph_eq hrejected hsilent]
  cases silent with
  | true => exact ⟨s, rfl, by simp [State.setGrid, State.emitAll], fun r c => (if_neg (by simp)).symm⟩
  | false =>
    obtain ⟨t, ht, hframe, hcells⟩ := writeAtCursor_update s (glyphCell b rejected s) hin
    exact ⟨t, ht, hframe, fun r c => by simpa using hcells r c⟩

/-! ### The advance (R153) -/

theorem putChar_of_col_ne {s : State} (b : Byte) (hcol : s.col ≠ s.params.cols) :
    putChar b s = andThen (writeGlyph b s) (fun t => .next (advance b t)) := by
  rw [putChar, resolveWrap, if_neg hcol, andThen_next]

/-- The column that a space in the last column backs off to is the one it was written to. -/
theorem advanceCol_eq (c cols : Nat) (b : Byte) :
    (if c + 1 = cols ∧ b = 0x20 then cols - 1 else c + 1) = if c + 1 = cols ∧ b = 0x20 then c else c + 1 :=
  ite_congr rfl (fun h => by omega) fun _ => rfl

/-- Settles O42: no wrap is pending, so Put-Char is the write, then the advance. -/
theorem printWrites : Obligations.PrintWrites := by
  intro s b rejected silent hinv hcol hrejected hsilent
  obtain ⟨t, ht, hframe, hcells⟩ :=
    writeGlyph_next ((s.inGrid_iff _ _).mpr ⟨hinv.rowLt, hcol⟩) hrejected hsilent
  refine ⟨advance b t, ?_, ?_, hcells⟩
  · rw [exec_print, putChar_of_col_ne b hcol.ne, ht, andThen_next]
  · rw [← advanceCol_eq, hframe]
    rfl

/-! ### The pending wrap (R151) -/

/-- Put-Char goes on from where the wrap is resolved as it does from any other column. -/
theorem putChar_of_resolveWrap {s m : State} (b : Byte) (hm : resolveWrap s = .next m) (hcol : m.col ≠ m.params.cols) :
    putChar b s = putChar b m := by
  rw [putChar_of_col_ne b hcol, putChar, hm, andThen_next]

theorem resolveWrap_hold {s : State} (hcol : s.col = s.params.cols) (hawm : s.word.modes.awm = false) :
    resolveWrap s = .next (s.setCursor s.row (s.params.cols - 1)) := by
  simp [resolveWrap, hcol, hawm]

theorem resolveWrap_index {s : State} (hcol : s.col = s.params.cols) (hawm : s.word.modes.awm = true) :
    resolveWrap s = index (s.setCursor s.row 0) := by
  simp [resolveWrap, hcol, hawm]

/-- Settles O43: the wrap resolves to the last column, or to column 0 by one of the two cases of `Index()`. -/
theorem printWraps : Obligations.PrintWraps := by
  intro s b hinv hcol
  obtain ⟨-, hcols, -⟩ := (RangeInv.of_inv hinv).dims
  refine ⟨fun hawm => ?_, fun hawm hrow => ?_, fun hawm hrow => ?_, ?_⟩
  · exact putChar_of_resolveWrap b (resolveWrap_hold hcol hawm) (Nat.sub_one_lt_of_lt hcols).ne
  · refine putChar_of_resolveWrap b ?_ (Nat.ne_of_lt hcols)
    rw [resolveWrap_index hcol hawm, index_move (s.setCursor s.row 0) hrow, ← nextRow_eq hinv.rowLt]
    rfl
  · obtain ⟨m, hm, hframe, -, hcells⟩ := index_scroll (s.setCursor s.row 0) hrow hinv.regionLe hinv.scrollMaxLt
    refine ⟨m, hframe, shiftedUp_one hinv.scrollMaxLt hcells, ?_⟩
    refine putChar_of_resolveWrap b ((resolveWrap_index hcol hawm).trans hm) ?_
    rw [hframe]
    exact Nat.ne_of_lt hcols
  · obtain ⟨t, ht, -⟩ := keeps_putChar b s (RangeInv.of_inv hinv)
    exact ⟨t, ht⟩

end Sys2Proof.Machine
end

section
/-! SUPPORT. The cursor and `OUT`: which instructions move the cursor (43_csi.md R189), and that only those of a key event write
`OUT` (43_csi.md R188; 46_keyboard.md R240). `Effect` does not say this, since its cursor and stream cases allow any instruction. -/

namespace Sys2Proof.Machine

/-- The cursor and `OUT` are those of `s`. -/
structure CursorOutKept (s t : State) : Prop where
  row : t.row = s.row
  col : t.col = s.col
  out : t.out = s.out

/-- What instruction `i` does from `s` to the cursor and to `OUT`. -/
inductive CursorOutEffect (s : State) (i : Instr) (t : State) : Prop where
  /-- nothing -/
  | quiet (hkey : isKeyInstr i = false) (hkept : CursorOutKept s t)
  /-- it may move the cursor -/
  | moves (hkey : isKeyInstr i = false) (hmoves : movesCursor i = true) (hout : t.out = s.out)
  /-- it may write `OUT`, and writes nothing else -/
  | key (hkey : isKeyInstr i = true) (hframe : t = { s with out := t.out })

section
variable {s t x : State} {i : Instr} {o : Out}

theorem CursorOutKept.of_edit (h : t = { s with grid := t.grid, sink := t.sink }) : CursorOutKept s t := by
  rw [h]
  exact ⟨rfl, rfl, rfl⟩

theorem quiet_next (hkey : isKeyInstr i = false) (hkept : CursorOutKept s x) (h : (.next x : Out) = .next t) :
    CursorOutEffect s i t :=
  next_inj h ▸ .quiet hkey hkept

/-- An operation, and then `Cancel()`, which writes neither. -/
theorem quiet_ends (hkey : isKeyInstr i = false) (hkept : ∀ m, o = .next m → CursorOutKept s m)
    (h : thenCancel o = .next t) : CursorOutEffect s i t := by
  obtain ⟨m, hm, rfl⟩ := thenCancel_eq_next.mp h
  obtain ⟨hrow, hcol, hout⟩ := hkept m hm
  exact .quiet hkey ⟨hrow, hcol, hout⟩

theorem quiet_accumulate (b : Byte) (hkey : isKeyInstr i = false) (h : (.next (accumulate b s) : Out) = .next t) :
    CursorOutEffect s i t := by
  refine quiet_next hkey ?_ h
  rw [accumulate_frame]
  exact ⟨rfl, rfl, rfl⟩

theorem moves_next (hi : isKeyInstr i = false ∧ movesCursor i = true) (hout : x.out = s.out)
    (h : (.next x : Out) = .next t) : CursorOutEffect s i t :=
  next_inj h ▸ .moves hi.1 hi.2 hout

theorem moves_ends (hi : isKeyInstr i = false ∧ movesCursor i = true) (hout : ∀ m, o = .next m → m.out = s.out)
    (h : thenCancel o = .next t) : CursorOutEffect s i t := by
  obtain ⟨m, hm, rfl⟩ := thenCancel_eq_next.mp h
  exact .moves hi.1 hi.2 (hout m hm)

theorem key_next (hkey : isKeyInstr i = true) (hframe : x = { s with out := x.out }) (h : (.next x : Out) = .next t) :
    CursorOutEffect s i t :=
  next_inj h ▸ .key hkey hframe

end

/-! ### The operations -/

theorem index_out {s t : State} (h : index s = .next t) : t.out = s.out := by
  rw [index_frame h]

theorem reverseIndex_out {s t : State} (h : reverseIndex s = .next t) : t.out = s.out := by
  rw [reverseIndex_frame h]

theorem lineFeed_out {s t : State} (h : lineFeed s = .next t) : t.out = s.out := by
  rw [lineFeed_frame h]

theorem putChar_out {b : Byte} {s t : State} (h : putChar b s = .next t) : t.out = s.out := by
  rw [putChar_frame h]

theorem scp_cursorOut {s t : State} (h : scp s = .next t) : CursorOutKept s t := by
  obtain rfl := next_inj h
  split <;> exact ⟨rfl, rfl, rfl⟩

theorem sgr_cursorOut {ps : List Nat} {s t : State} (h : sgr ps s = .next t) : CursorOutKept s t := by
  obtain ⟨u, hu, hframe⟩ := sgr_frame ps s
  obtain rfl := next_inj (h.symm.trans hu)
  rw [hframe]
  exact ⟨rfl, rfl, rfl⟩

theorem decstbm_cursorOut {ps : List Nat} {s t : State} (h : decstbm ps s = .next t) : CursorOutKept s t := by
  rw [decstbm_frame h]
  exact ⟨rfl, rfl, rfl⟩

/-- RM changes CURINV only, so the hook's delta is empty in COLM and OM (45_modes.md R227). -/
theorem rm_eq (ps : List Nat) (s : State) :
    rm ps s = .next (s.setCurinv (s.word.curinv && !ps.contains 25)) := by
  have hnone := xor_colm_om (w := s.word) (v := { s.word with curinv := s.word.curinv && !ps.contains 25 }) rfl
  rw [rm, walkModes, walk_rm_eq, andThen_next, modeHook_none hnone.1 hnone.2]
  rfl

theorem rm_cursorOut {ps : List Nat} {s t : State} (h : rm ps s = .next t) : CursorOutKept s t := by
  rw [rm_eq] at h
  cases h
  exact ⟨rfl, rfl, rfl⟩

/-- SM is its parameters, then the hook on the delta (45_modes.md R220). -/
theorem sm_inv {ps : List Nat} {s t : State} (h : sm ps s = .next t) :
    ∃ m, SmFrame ps s m ∧ modeHook (StateWord.xor s.word m.word) m = .next t := by
  obtain ⟨m, hm, hframe⟩ := walk_sm_frame ps s
  obtain ⟨u, hu, ht⟩ := andThen_eq_next.mp h
  obtain rfl := next_inj (hu.symm.trans hm)
  exact ⟨u, hframe, ht⟩

theorem sm_out {ps : List Nat} {s t : State} (h : sm ps s = .next t) : t.out = s.out := by
  obtain ⟨m, hm, ht⟩ := sm_inv h
  rw [setModes_frame hm (modeHook_effect ht)]

/-- With COLM and OM unchanged the hook does nothing (45_modes.md R224). -/
theorem sm_cursor {ps : List Nat} {s t : State} (h : sm ps s = .next t)
    (hcolm : t.word.modes.colm = s.word.modes.colm) (hom : t.word.modes.om = s.word.modes.om) :
    t.row = s.row ∧ t.col = s.col := by
  obtain ⟨m, hm, ht⟩ := sm_inv h
  have hmodes : t.word.modes = m.word.modes := by rw [(modeHook_effect ht).frame]
  rw [hmodes] at hcolm hom
  rw [modeHook_none (by simp [StateWord.xor, modesXor, hcolm]) (by simp [StateWord.xor, modesXor, hom])] at ht
  cases ht
  rw [hm.1]
  exact ⟨rfl, rfl⟩

/-! ### Every instruction -/

theorem exec_cursorOut (s : State) : ∀ (i : Instr), CsiOperandOpen i → ∀ t, exec i s = .next t → CursorOutEffect s i t
  | .nul | .c0Nop01 | .c0Nop02 | .c0Nop03 | .c0Nop04 | .c0Nop05 | .c0Nop06 | .c0Nop10 | .c0Nop11 | .c0Nop12 | .c0Nop13
  | .c0Nop14 | .c0Nop15 | .c0Nop16 | .c0Nop17 | .c0Nop19 | .c0Nop1C | .c0Nop1D | .c0Nop1E | .c0Nop1F
  | .bel | .so | .si | .can | .sub | .oscEnd | .esc | .csi8
  | .escHashOther (some _) | .scsG0 (some _) | .scsG1 (some _) | .escUnrecognised _ | .csiUnrecognised _
  | .sgr0 | .sgrBold _ | .sgrBlink | .sgrReverse _ | .sgrInvisible | .sgrPrimary | .sgrAltcs | .sgrBoldOff _
  | .sgrBlinkOff | .sgrInvisibleOff | .sgrFg _ | .sgrFgDefault | .sgrBg _ | .sgrBgDefault | .sgrIgnored _
  | .smCkm | .smAnm | .smColm | .smSclm | .smScnm | .smOm | .smAwm | .smArm | .smInlm | .smLnm | .sm25 | .smIgnored _
  | .rm25 | .rmIgnored _ | .decsc | .decaln => fun _ _ => quiet_next rfl ⟨rfl, rfl, rfl⟩
  | .escHashOther none | .scsG0 none | .scsG1 none | .csi none | .osc none | .osc (some _) => fun _ _ =>
    quiet_accumulate _ rfl
  | .csi (some v) => fun hi _ h => quiet_accumulate v rfl ((exec_open rfl hi s).symm.trans h)
  | .sgr _ => fun _ _ => quiet_ends rfl fun _ => sgr_cursorOut
  | .rm _ => fun _ _ => quiet_ends rfl fun _ => rm_cursorOut
  | .decstbm _ => fun _ _ => quiet_ends rfl fun _ => decstbm_cursorOut
  | .ed _ => fun _ _ => quiet_ends rfl fun _ h => .of_edit (ed_frame h)
  | .el _ => fun _ _ => quiet_ends rfl fun _ h => .of_edit (el_frame h)
  | .ech _ => fun _ _ => quiet_ends rfl fun _ h => .of_edit (eraseCells_frame h)
  | .ich _ | .dch _ => fun _ _ => quiet_ends rfl fun _ h => .of_edit (rewriteTail_frame h)
  | .il _ => fun _ _ => quiet_ends rfl fun _ h => .of_edit (il_frame h)
  | .dl _ => fun _ _ => quiet_ends rfl fun _ h => .of_edit (dl_frame h)
  | .scp => fun _ _ => quiet_ends rfl fun _ => scp_cursorOut
  | .bs | .ht | .cr | .decrc => fun _ _ => moves_next ⟨rfl, rfl⟩ rfl
  | .lf | .vt | .ff => fun _ _ h => moves_next ⟨rfl, rfl⟩ (lineFeed_out h) rfl
  | .print _ => fun _ _ h => moves_next ⟨rfl, rfl⟩ (putChar_out h) rfl
  | .ind => fun _ _ => moves_ends ⟨rfl, rfl⟩ fun _ => index_out
  | .nel => fun _ _ => moves_ends ⟨rfl, rfl⟩ fun _ => index_out (s := s.setCursor s.row 0)
  | .ri => fun _ _ => moves_ends ⟨rfl, rfl⟩ fun _ => reverseIndex_out
  | .sm _ => fun _ _ => moves_ends ⟨rfl, rfl⟩ fun _ => sm_out
  | .cuu _ | .cud _ | .cuf _ | .cub _ | .cnl _ | .cpl _ | .cha _ | .vpr _ | .hpr _ | .vpa _ | .hpa _ => fun _ _ =>
    moves_next ⟨rfl, rfl⟩ rfl
  | .cup _ | .hvp _ => fun _ _ => moves_next ⟨rfl, rfl⟩ (by simp only [cancel, cursorPosition]; split <;> rfl)
  | .rcp => fun _ _ => moves_next ⟨rfl, rfl⟩ (by split <;> rfl)
  | .keyChar _ _ | .keyUp _ | .keyDown _ | .keyRight _ | .keyLeft _ | .keyF1 _ | .keyF2 _ | .keyF3 _ | .keyF4 _ | .keyF5 _
  | .keyF6 _ | .keyF7 _ | .keyF8 _ | .keyF9 _ | .keyF10 _ | .keyF11 _ | .keyF12 _ | .keyInsert _ | .keyDelete _ | .keyHome _
  | .keyEnd _ | .keyPageUp _ | .keyPageDown _ | .keySuspend _ | .keyNull _ | .keyReleased _ _ => fun _ _ =>
    key_next rfl rfl

theorem exec_out_of_not_key {i : Instr} {s t : State} (hi : CsiOperandOpen i) (hkey : isKeyInstr i = false)
    (h : exec i s = .next t) : t.out = s.out := by
  cases exec_cursorOut s i hi t h with
  | quiet _ hkept => exact hkept.out
  | moves _ _ hout => exact hout
  | key hkey' => exact absurd (hkey.symm.trans hkey') (by decide)

theorem exec_frame_of_key {i : Instr} {s t : State} (hi : CsiOperandOpen i) (hkey : isKeyInstr i = true)
    (h : exec i s = .next t) : t = { s with out := t.out } := by
  cases exec_cursorOut s i hi t h with
  | quiet hkey' | moves hkey' => exact absurd (hkey.symm.trans hkey') (by decide)
  | key _ hframe => exact hframe

/-- Settles O21: a moving instruction is one of `movesCursor`; SM moves the cursor by the hook, which runs only where COLM or OM
changed. -/
theorem cursorWriters : Obligations.CursorWriters := by
  refine ⟨fun i s t hi h hstill => ?_, fun s t ps h hcolm hom => ?_⟩
  · cases exec_cursorOut s i (csiOperandOpen_of_wellFormed hi) t h with
    | quiet _ hkept => exact ⟨hkept.row, hkept.col⟩
    | moves _ hmoves => exact absurd (hstill.symm.trans hmoves) (by decide)
    | key _ hframe => rw [hframe]; exact ⟨rfl, rfl⟩
  · obtain ⟨m, hm, rfl⟩ := thenCancel_eq_next.mp h
    exact sm_cursor (t := m) hm hcolm hom

/-! ### Byte steps -/

theorem decodeByte_not_key (b : Byte) : isKeyInstr (decodeByte b) = false := by
  unfold decodeByte
  split <;> rfl

theorem decodeVerb_not_key (ps : List Nat) (v : Byte) : isKeyInstr (decodeVerb ps v) = false := by
  unfold decodeVerb
  split <;> rfl

theorem decodeSeq_not_key (f : Byte) (rest : List Byte) : isKeyInstr (decodeSeq f rest) = false := by
  unfold decodeSeq
  split
  case h_6 => split <;> [rfl; (split <;> rfl)]
  case h_9 =>
    split
    · rfl
    · split
      · exact decodeVerb_not_key _ _
      · rfl
  case h_10 => split <;> [rfl; (split <;> rfl)]
  all_goals rfl

/-- The instruction of a byte is none of a key event. -/
theorem fetchInstr_not_key (b : Byte) (s : State) : isKeyInstr (fetchInstr b s) = false := by
  unfold fetchInstr decodeAny
  split
  · rfl
  · exact decodeByte_not_key _
  · split <;> exact decodeSeq_not_key _ _

theorem Effect.profile {s m : State} {i : Instr} (h : Effect s i m) : m.profile = s.profile := by
  cases h with
  | setModes hm ht => rw [setModes_frame hm ht]
  | _ => rfl

theorem exec_params_profile {i : Instr} {s t : State} (hi : CsiOperandOpen i) (h : exec i s = .next t) :
    t.params = s.params ∧ t.profile = s.profile := by
  obtain ⟨m, he, hp⟩ := exec_effect s i hi t h
  rw [hp.frame]
  exact ⟨he.params, he.profile⟩

/-- No step changes a parameter (00_scope.md R8). -/
theorem step_params {s t : State} (h : step s = .next t) : t.params = s.params := by
  cases step_case h with
  | idle | profile => rfl
  | @byte b rest _ _ hexec => exact (exec_params_profile (decodeAny_open _) hexec).1
  | @key ev rest i _ _ hi hexec => exact (exec_params_profile (isKeyInstr_open (isKeyInstr_of_decodeKey hi)).1 hexec).1

/-- Settles O19: the instruction of a byte is none of a key event, no effect changes the profile or a parameter, and no instruction
writes the pending calls. -/
theorem inputPathWritesNoOutput : Obligations.InputPathWritesNoOutput := by
  refine ⟨fun s t b rest hcalls h => ?_, fun s t => step_params, fun i s t hi h => ?_⟩
  · rw [step_byte (step_params_ok h) hcalls] at h
    have hopen : CsiOperandOpen (fetchInstr b (s.setCalls rest)) := decodeAny_open _
    exact ⟨exec_out_of_not_key (s := s.setCalls rest) hopen (fetchInstr_not_key b _) h, (exec_params_profile hopen h).2,
      exec_calls h⟩
  · have hopen := csiOperandOpen_of_wellFormed hi
    split
    · next hkey => exact exec_frame_of_key hopen hkey h
    · next hkey => exact exec_out_of_not_key hopen (eq_false_of_ne_true hkey) h

end Sys2Proof.Machine
end

section
/-! SUPPORT. The CSI commands that move the cursor (43_csi.md R161 to R178): each is one `CursorTo`, whose clamp (00_scope.md R10)
is that of the natural number the integer position truncates to. -/

namespace Sys2Proof.Machine

/-! ### Operands (30_encoding.md R81 to R83) -/

theorem clampTo_eq_min (v : Int) (hi : Nat) : clampTo v hi = min v.toNat hi := by
  simp only [clampTo]
  omega

theorem toNat_paramPred (ps : List Nat) (i : Nat) : (paramPred ps i).toNat = ps.getD i 0 - 1 :=
  Int.toNat_sub (ps.getD i 0) 1

theorem amount_eq (ps : List Nat) : amount ps = if 1 ≤ ps.getD 0 0 then ps.getD 0 0 else 1 := by
  cases ps <;> rfl

/-! ### `CursorTo` (R161) -/

/-- A command that is `CursorTo(r, c)`, by the row and the column before the clamp. -/
theorem exec_cursorTo {i : Instr} {s : State} {r c : Int} {row col : Nat}
    (hexec : exec i s = thenCancel (.next (cursorTo r c s))) (hrow : r.toNat = row) (hcol : c.toNat = col) :
    exec i s = .next { s with row := min row (s.params.rows - 1), col := min col (s.params.cols - 1),
                              sink := s.sink ++ [.invCursor], word := { s.word with esc := false }, acc := [] } := by
  rw [hexec, cursorTo, clampTo_eq_min, clampTo_eq_min, hrow, hcol]
  rfl

/-- Home is the position of missing parameters. -/
theorem cursorPosition_eq (ps : List Nat) (s : State) :
    cursorPosition ps s = cursorTo (paramPred ps 0) (paramPred ps 1) s := by
  cases ps with
  | nil => exact (cursorTo_of_nonpos (r := paramPred [] 0) (c := paramPred [] 1) (by decide) (by decide) s).symm
  | cons p rest => rfl

/-- Settles O45: each command is `CursorTo` in the column of the cursor, `n` rows up, `n` rows down or in row `n - 1`. -/
theorem verticalMotions : Obligations.VerticalMotions := by
  intro s ps n hn
  rw [← amount_eq] at hn
  subst hn
  have hup := Int.toNat_sub s.row (amount ps)
  have hdown := Int.toNat_natCast (s.row + amount ps)
  have hto := Int.toNat_sub (amount ps) 1
  have hcol := Int.toNat_natCast s.col
  simp only [List.forall_mem_cons]
  exact ⟨exec_cursorTo rfl hup hcol, exec_cursorTo rfl hup hcol, exec_cursorTo rfl hdown hcol, exec_cursorTo rfl hdown hcol,
    exec_cursorTo rfl hdown hcol, exec_cursorTo rfl hto hcol, nofun⟩

/-- A command that is `CursorTo` in the row of the cursor, which the clamp leaves. -/
theorem exec_cursorTo_row {i : Instr} {s : State} {c : Int} {col : Nat} (hlt : s.row < s.params.rows)
    (hexec : exec i s = thenCancel (.next (cursorTo s.row c s))) (hcol : c.toNat = col) :
    exec i s = .next { s with col := min col (s.params.cols - 1), sink := s.sink ++ [.invCursor],
                              word := { s.word with esc := false }, acc := [] } := by
  rw [exec_cursorTo hexec (Int.toNat_natCast s.row) hcol, Nat.min_eq_left (Nat.le_sub_one_of_lt hlt)]

/-- Settles O46: each command is `CursorTo` in the row of the cursor, `n` columns right, `n` columns left or in column `n - 1`. -/
theorem horizontalMotions : Obligations.HorizontalMotions := by
  intro s ps n hrow hn
  rw [← amount_eq] at hn
  subst hn
  have hright := Int.toNat_natCast (s.col + amount ps)
  have hleft := Int.toNat_sub s.col (amount ps)
  have hto := Int.toNat_sub (amount ps) 1
  simp only [List.forall_mem_cons]
  exact ⟨exec_cursorTo_row hrow rfl hright, exec_cursorTo_row hrow rfl hright, exec_cursorTo_row hrow rfl hleft,
    exec_cursorTo_row hrow rfl hto, exec_cursorTo_row hrow rfl hto, nofun⟩

end Sys2Proof.Machine

namespace Sys2Proof
open Machine

/-- Settles O44: the two commands are one `CursorTo`, to the parameters less 1. (It stands outside the namespace of the model's
operation `Machine.cursorPosition`, whose name it shares.) -/
theorem cursorPosition : Obligations.CursorPosition := by
  intro s ps i hi
  have hexec : exec i s = thenCancel (.next (cursorTo (paramPred ps 0) (paramPred ps 1) s)) := by
    rw [← cursorPosition_eq]
    fin_cases hi <;> rfl
  exact exec_cursorTo hexec (toNat_paramPred ps 0) (toNat_paramPred ps 1)

end Sys2Proof
end

section
/-! SUPPORT. The CSI commands that erase, insert and delete, and the scrolling region (43_csi.md R165, R179 to R185). -/

namespace Sys2Proof.Machine

theorem row_inGrid {s : State} (hinv : StateInv s) {c : Nat} (hc : c < s.params.cols) : s.inGrid s.row c = true :=
  (s.inGrid_iff _ _).mpr ⟨hinv.rowLt, hc⟩

/-- The cursor, its column read for indexing (20_memory.md R53). -/
theorem cursor_inGrid {s : State} (hinv : StateInv s) : s.inGrid s.row s.cc = true :=
  row_inGrid hinv (s.cc_lt (RangeInv.of_inv hinv).dims.2.1)

theorem rowEnd_inGrid {s : State} (hinv : StateInv s) : s.inGrid s.row (s.params.cols - 1) = true :=
  row_inGrid hinv (Nat.sub_one_lt_of_lt (RangeInv.of_inv hinv).dims.2.1)

/-! ### ED, EL and ECH (R165, R179, R184) -/

/-- The events of the cells from one address to another in row-major order (20_memory.md R59). -/
theorem cellEvents_between {s : State} {r1 c1 r2 c2 : Nat} {P : Nat → Nat → Bool} (h1 : s.inGrid r1 c1 = true)
    (h2 : s.inGrid r2 c2 = true)
    (hP : ∀ r c, r < s.params.rows → c < s.params.cols →
      (P r c = true ↔ (r1 < r ∨ (r1 = r ∧ c1 ≤ c)) ∧ (r < r2 ∨ (r = r2 ∧ c ≤ c2)))) :
    s.cellEvents P = (List.range' (s.index r1 c1) (s.index r2 c2 + 1 - s.index r1 c1)).map s.cellEvent := by
  obtain ⟨-, hc1⟩ := (s.inGrid_iff _ _).mp h1
  obtain ⟨hr2, hc2⟩ := (s.inGrid_iff _ _).mp h2
  refine cellEvents_eq s P _ _ (s.index_lt hr2 hc2) fun r c hr hc => ?_
  rw [hP r c hr hc, Nat.lt_succ_iff, s.index_le_iff hc1 hc, s.index_le_iff hc hc2]

/-- A command that is `EraseCells` from one address to another, by the cells that lie between them. -/
theorem exec_eraseCells {i : Instr} {s : State} {r1 c1 r2 c2 : Nat} {P : Nat → Nat → Bool}
    (hexec : exec i s = thenCancel (eraseCells r1 c1 r2 c2 s)) (h1 : s.inGrid r1 c1 = true) (h2 : s.inGrid r2 c2 = true)
    (hP : ∀ r c, r < s.params.rows → c < s.params.cols →
      (P r c = true ↔ (r1 < r ∨ (r1 = r ∧ c1 ≤ c)) ∧ (r < r2 ∨ (r = r2 ∧ c ≤ c2)))) :
    ∃ t, exec i s = .next t ∧
      t = { s with grid := t.grid, sink := s.sink ++ s.cellEvents P, word := { s.word with esc := false }, acc := [] } ∧
      Erased P s t := by
  obtain ⟨t, ht, hframe, -, hcells⟩ := eraseCells_next s h1 h2
  rw [← cellEvents_between h1 h2 hP] at hframe
  refine ⟨cancel t, by rw [hexec, ht, thenCancel_next], congrArg cancel hframe, fun r c => (hcells r c).trans ?_⟩
  refine if_congr (and_congr_right fun hin => ?_) rfl rfl
  obtain ⟨hr, hc⟩ := (s.inGrid_iff r c).mp hin
  exact (hP r c hr hc).symm

/-- Settles O47: in each case the command is `EraseCells` from one address to another, and the named cells lie between them. -/
theorem erases : Obligations.Erases := by
  intro s ps n cc hinv hn hcc
  rw [← amount_eq] at hn
  obtain rfl : cc = s.cc := hcc
  have hpos := amount_pos ps
  obtain ⟨hrows, hcols, -⟩ := (RangeInv.of_inv hinv).dims
  have hrow := hinv.rowLt
  have hcursor := cursor_inGrid hinv
  have hend := rowEnd_inGrid hinv
  have hstart := row_inGrid hinv hcols
  have horigin : s.inGrid 0 0 = true := (s.inGrid_iff 0 0).mpr ⟨hrows, hcols⟩
  have hlast : s.inGrid (s.params.rows - 1) (s.params.cols - 1) = true := (s.inGrid_iff _ _).mpr ⟨by omega, by omega⟩
  have hamount : s.inGrid s.row (min (s.cc + amount ps) s.params.cols - 1) = true := row_inGrid hinv (by omega)
  simp only [List.forall_mem_cons]
  refine ⟨?_, ?_, ?_, nofun⟩
  · by_cases h2 : ps.getD 0 0 = 2
    · simp only [if_pos h2]
      exact exec_eraseCells (congrArg thenCancel (if_pos h2)) horigin hlast fun r c _ _ => iff_of_true rfl (by omega)
    by_cases h1 : ps.getD 0 0 = 1
    · simp only [if_neg h2, if_pos h1]
      exact exec_eraseCells (congrArg thenCancel ((if_neg h2).trans (if_pos h1))) horigin hcursor fun r c _ _ => by
        rw [decide_eq_true_iff]; omega
    · simp only [if_neg h2, if_neg h1]
      exact exec_eraseCells (congrArg thenCancel ((if_neg h2).trans (if_neg h1))) hcursor hlast fun r c _ _ => by
        rw [decide_eq_true_iff]; omega
  · by_cases h1 : ps.getD 0 0 = 1
    · simp only [if_pos h1]
      exact exec_eraseCells (congrArg thenCancel (if_pos h1)) hstart hcursor fun r c _ _ => by
        rw [decide_eq_true_iff]; omega
    by_cases h2 : ps.getD 0 0 = 2
    · simp only [if_neg h1, if_pos h2]
      exact exec_eraseCells (congrArg thenCancel ((if_neg h1).trans (if_pos h2))) hstart hend fun r c _ _ => by
        rw [decide_eq_true_iff]; omega
    · simp only [if_neg h1, if_neg h2]
      exact exec_eraseCells (congrArg thenCancel ((if_neg h1).trans (if_neg h2))) hcursor hend fun r c _ _ => by
        rw [decide_eq_true_iff]; omega
  · exact exec_eraseCells rfl hcursor hamount fun r c _ _ => by rw [decide_eq_true_iff]; omega

/-! ### ICH and DCH (R180, R181) -/

/-- The events of the tail of the cursor row, from left to right. -/
theorem cellEvents_tail {s : State} (hinv : StateInv s) :
    s.cellEvents (fun r c => decide (r = s.row ∧ s.cc ≤ c)) =
      (List.range' s.cc (s.params.cols - s.cc)).map (fun c => .invCell s.row c) := by
  obtain ⟨-, hcols, -⟩ := (RangeInv.of_inv hinv).dims
  rw [cellEvents_between (cursor_inGrid hinv) (rowEnd_inGrid hinv) fun r c _ _ => by rw [decide_eq_true_iff]; omega]
  have hlen : s.index s.row (s.params.cols - 1) + 1 - s.index s.row s.cc = s.params.cols - s.cc := by
    simp only [State.index]
    omega
  rw [hlen, State.index, ← List.map_add_range', List.map_map]
  refine List.map_congr_left fun c hc => ?_
  have hlt : c < s.params.cols := by
    have := List.mem_range'_1.mp hc
    omega
  show SinkEvent.invCell (s.index s.row c / s.params.cols) (s.index s.row c % s.params.cols) = _
  rw [s.index_div hlt, s.index_mod hlt]

/-- A command that rewrites the tail of the cursor row, by what each of its cells reads. -/
theorem exec_rewriteTail {i : Instr} {s : State} {f : Nat → Cell} {g : Nat → Nat → Option Cell} (hinv : StateInv s)
    (hexec : exec i s = thenCancel (rewriteTail f s))
    (hcells : ∀ c, s.cc ≤ c → c < s.params.cols → some (f c) = g s.row c) :
    ∃ t, exec i s = .next t ∧
      t = { s with grid := t.grid, word := { s.word with esc := false }, acc := [],
                   sink := s.sink ++ s.cellEvents (fun r c => decide (r = s.row ∧ s.cc ≤ c)) } ∧
      ∀ r c, t.cellAt r c = if s.inGrid r c = true ∧ r = s.row ∧ s.cc ≤ c then g r c else s.cellAt r c := by
  obtain ⟨t, ht, hframe, -, hcell⟩ := rewriteTail_next s f (cursor_inGrid hinv)
  rw [← cellEvents_tail hinv] at hframe
  refine ⟨cancel t, by rw [hexec, ht, thenCancel_next], congrArg cancel hframe, fun r c => (hcell r c).trans ?_⟩
  refine ite_congr rfl (fun htail => ?_) fun _ => rfl
  obtain ⟨hin, rfl, hle⟩ := htail
  exact hcells c hle ((s.inGrid_iff _ _).mp hin).2

/-- Settles O48: within the row, the shift by `n` and the shift by `min n (COLS - CC)` agree. -/
theorem insertDeleteCharacters : Obligations.InsertDeleteCharacters := by
  intro s ps n cc hinv hn hcc
  rw [← amount_eq] at hn
  obtain rfl : cc = s.cc := hcc
  have hcell : ∀ c, c < s.params.cols → some (s.rawCell s.row c) = s.cellAt s.row c := fun c hc =>
    (cellAt_of_inGrid s (row_inGrid hinv hc)).symm
  constructor
  · refine exec_rewriteTail (g := fun r c => if s.cc + n ≤ c then s.cellAt r (c - n) else some s.blank) hinv rfl ?_
    intro c hle hlt
    rw [← hn, apply_ite some]
    by_cases hfrom : s.cc + n ≤ c
    · rw [if_pos hfrom, if_pos (by omega), Nat.min_eq_left (by omega), hcell _ (by omega)]
    · rw [if_neg hfrom, if_neg (by omega)]
  · refine exec_rewriteTail (g := fun r c => if c + n < s.params.cols then s.cellAt r (c + n) else some s.blank) hinv rfl ?_
    intro c hle hlt
    rw [← hn, apply_ite some]
    by_cases hfrom : c + n < s.params.cols
    · rw [if_pos hfrom, if_pos (by omega), Nat.min_eq_left (by omega), hcell _ (by omega)]
    · rw [if_neg hfrom, if_neg (by omega)]

/-! ### IL and DL (R182, R183) -/

/-- The cells of `ShiftUp` inside the grid are those of the region moved up. -/
theorem shiftedUp_of_cells {s t : State} {top bot n : Nat} (hbot : bot < s.params.rows)
    (hcells : ∀ r c, t.cellAt r c =
      if top ≤ r ∧ r ≤ bot then
        (if r + n ≤ bot then s.cellAt (r + n) c else if c < s.params.cols then some s.blank else none)
      else s.cellAt r c) : ShiftedUp top bot n s t := by
  intro r c
  rw [hcells]
  by_cases hc : c < s.params.cols
  · have hregion : top ≤ r ∧ r ≤ bot ↔ s.inGrid r c = true ∧ top ≤ r ∧ r ≤ bot :=
      ⟨fun h => ⟨(s.inGrid_iff r c).mpr ⟨by omega, hc⟩, h⟩, And.right⟩
    rw [if_pos hc]
    exact if_congr hregion rfl rfl
  · have hout : ∀ i, s.inGrid i c = false := fun i => eq_false_of_ne_true fun h => hc ((s.inGrid_iff i c).mp h).2
    simp [State.cellAt, hout, hc]

theorem rowInRegion_iff (s : State) : s.rowInRegion = true ↔ s.scrollMin ≤ s.row ∧ s.row ≤ s.scrollMax := by
  simp [State.rowInRegion]

/-- Settles O49: outside the region nothing but `Cancel()`, inside it one shift of the rows from the cursor row to the bottom
margin. -/
theorem insertDeleteLines : Obligations.InsertDeleteLines := by
  intro s ps n hinv hn
  rw [← amount_eq] at hn
  subst hn
  refine ⟨fun hout => ?_, fun htop hbot => ⟨?_, ?_⟩⟩
  · have hregion : ¬ s.rowInRegion = true := by
      rw [rowInRegion_iff]
      omega
    simp only [List.forall_mem_cons]
    exact ⟨congrArg thenCancel (if_neg hregion), congrArg thenCancel (if_neg hregion), nofun⟩
  all_goals have hregion := (rowInRegion_iff s).mpr ⟨htop, hbot⟩
  · obtain ⟨t, ht, hframe, -, hcells⟩ := shiftDown_next s (amount ps) hbot hinv.scrollMaxLt
    have hil : il ps s = .next (t.emit .invScreen) := by rw [il, if_pos hregion, ht, andThen_next]
    exact ⟨cancel (t.emit .invScreen), congrArg thenCancel hil, congrArg (fun t => cancel (t.emit .invScreen)) hframe,
      shiftedDown_of_cells hinv.scrollMaxLt hcells⟩
  · obtain ⟨t, ht, hframe, -, hcells⟩ := shiftUp_next s (amount ps) hbot hinv.scrollMaxLt
    have hdl : dl ps s = .next (t.emit .invScreen) := by rw [dl, if_pos hregion, ht, andThen_next]
    exact ⟨cancel (t.emit .invScreen), congrArg thenCancel hdl, congrArg (fun t => cancel (t.emit .invScreen)) hframe,
      shiftedUp_of_cells hinv.scrollMaxLt hcells⟩

/-! ### DECSTBM (R185) -/

/-- With no parameter the bounds are those of the full height. -/
theorem decstbm_eq (ps : List Nat) (s : State) :
    decstbm ps s = .next (takeRegion (min (ps.getD 0 0 - 1) (s.params.rows - 1))
      (if ps = [] then s.params.rows - 1 else min (ps.getD 1 0 - 1) (s.params.rows - 1)) s) := by
  cases ps with
  | nil => simp [decstbm]
  | cons p rest => simp only [decstbm, clampTo_eq_min, toNat_paramPred]; rfl

/-- Settles O50: `takeRegion` of the bounds in both of its cases. -/
theorem setScrollRegion : Obligations.SetScrollRegion := by
  intro s ps top bot htop hbot
  have hexec : exec (.decstbm ps) s = .next (cancel (takeRegion top bot s)) := by
    rw [htop, hbot]
    exact congrArg thenCancel (decstbm_eq ps s)
  rw [hexec, takeRegion]
  refine ⟨fun hlt => by rw [if_pos hlt]; rfl, fun hle => ?_⟩
  have hshort : (!(top == 0 && bot == s.params.rows - 1)) = decide (¬(top = 0 ∧ bot = s.params.rows - 1)) := by
    rw [Bool.eq_iff_iff]
    simp
  rw [if_neg (Nat.not_lt.mpr hle), hshort]
  rfl

end Sys2Proof.Machine
end

section
/-! SUPPORT. SGR and its parameter instructions (44_sgr.md R200 to R216). -/

namespace Sys2Proof.Machine

/-! ### The walk of SGR (R200, R216) -/

theorem exec_sgr (ps : List Nat) (s : State) : exec (.sgr ps) s = thenCancel (sgr ps s) := rfl

theorem sgr_of_ne_nil {ps : List Nat} (hps : ps ≠ []) (s : State) : sgr ps s = walk sgrParam ps s :=
  if_neg (by rwa [List.isEmpty_iff])

/-- The decoder of a parameter value and `SGRParam` split on the value alike. -/
theorem exec_decodeSgrParam (p : Nat) (s : State) : exec (decodeSgrParam p) s = sgrParam p s := by
  simp only [decodeSgrParam, sgrParam, apply_ite (exec · s)]
  rfl

theorem runAll_map_decodeSgrParam (ps : List Nat) : ∀ s, runAll (ps.map decodeSgrParam) s = walk sgrParam ps s := by
  induction ps with
  | nil => exact fun _ => rfl
  | cons p rest ih =>
    intro s
    rw [List.map_cons, runAll, walk_cons, exec_decodeSgrParam, funext ih]

/-- Settles O51: the walk of SGR runs the decoded parameters, and its frame is `sgr_frame`. -/
theorem sgrRunsItsParameters : Obligations.SgrRunsItsParameters := by
  refine ⟨fun _ => rfl, fun s ps hps => ?_, fun s ps => ?_⟩
  · rw [exec_sgr, sgr_of_ne_nil hps, ← runAll_map_decodeSgrParam]
    rfl
  · obtain ⟨t, ht, hframe⟩ := sgr_frame ps s
    exact ⟨cancel t, by rw [exec_sgr, ht, thenCancel_next], congrArg cancel hframe⟩

/-! ### The parameter instructions (R201 to R215) -/

theorem decodeSgrParam_foreground {p : Nat} (hlo : 30 ≤ p) (hhi : p ≤ 37) : decodeSgrParam p = .sgrFg p := by
  interval_cases p <;> rfl

theorem decodeSgrParam_background {p : Nat} (hlo : 40 ≤ p) (hhi : p ≤ 47) : decodeSgrParam p = .sgrBg p := by
  interval_cases p <;> rfl

/-- The eight colour values from `base` on fit the four bits of a colour index (R211, R213). -/
theorem toNat_colourIndex {p base : Nat} (hhi : p ≤ base + 7) : (BitVec.ofNat 4 (p - base)).toNat = p - base :=
  (BitVec.toNat_ofNat _ _).trans (Nat.mod_eq_of_lt (by omega))

/-- The values with a meaning are those of the flags and defaults, and the two colour ranges. -/
theorem mem_sgrValues {p : Nat} (hp : p ∈ sgrValues) :
    p ∈ [0, 1, 2, 4, 5, 7, 8, 10, 11, 22, 24, 25, 27, 28, 39, 49] ∨ (30 ≤ p ∧ p ≤ 37) ∨ (40 ≤ p ∧ p ≤ 47) := by
  revert p
  decide

/-- Settles O53: a colour value decodes to the row of its range, whose index fits the field, and a value outside `sgrValues` to
the row that does nothing. -/
theorem sgrColours : Obligations.SgrColours := by
  refine ⟨fun s p hlo hhi => ⟨decodeSgrParam_foreground hlo hhi, _, rfl, rfl, toNat_colourIndex hhi⟩,
    fun s p hlo hhi => ⟨decodeSgrParam_background hlo hhi, _, rfl, rfl, toNat_colourIndex hhi⟩,
    fun _ => ⟨rfl, rfl⟩, rfl, rfl, fun _ _ => rfl, fun p hlisted hfg hbg => decodeSgrParam_of_notMem fun hp => ?_⟩
  rcases mem_sgrValues hp with h | h | h
  · exact hlisted h
  · exact hfg h
  · exact hbg h

/-- Settles O52: each row is one update of the attribute or of `STATE.ALTCS`, and each listed value decodes to its row. -/
theorem sgrFlags : Obligations.SgrFlags := by
  intro s
  simp only [List.forall_mem_cons]
  exact ⟨rfl, ⟨⟨rfl, rfl⟩, ⟨rfl, rfl⟩, ⟨rfl, rfl⟩, nofun⟩, rfl, ⟨⟨rfl, rfl⟩, ⟨rfl, rfl⟩, nofun⟩, rfl, rfl, rfl,
    ⟨⟨rfl, rfl⟩, ⟨rfl, rfl⟩, nofun⟩, rfl, rfl, rfl⟩

end Sys2Proof.Machine
end

section
/-! SUPPORT. Set Mode, Reset Mode, their parameter instructions and the mode-change hook (45_modes.md R220 to R227). -/

namespace Sys2Proof.Machine

/-! ### The mode-change hook (R224 to R226) -/

/-- `s` after the hook, its grid aside: the COLM side effect if `colm`, and after it the OM side effect if `om`. -/
def afterHook (colm om : Bool) (g : Memory) (s : State) : State :=
  { s with
    grid := g
    row := if om then (if colm then 0 else s.scrollMin) else if colm then 0 else s.row
    col := if colm || om then 0 else s.col
    scrollMin := if colm then 0 else s.scrollMin
    scrollMax := if colm then s.params.rows - 1 else s.scrollMax
    word := { s.word with short := if colm then false else s.word.short }
    sink := s.sink ++ (if colm then .invCursor :: s.cellEvents (fun _ _ => true) else []) ++
      (if om then [.invCursor] else []) }

/-- `ColmEffect()`: the cursor goes home, the region becomes the full height and every cell is erased (R225). -/
theorem colmEffect_next {s : State} (hs : RangeInv s) :
    ∃ t, colmEffect s = .next t ∧ t = afterHook true false t.grid s ∧ Erased (fun _ _ => true) s t := by
  have horigin := inGrid_origin hs
  have hlast := inGrid_last hs
  obtain ⟨t, ht, hframe, -, hcells⟩ := eraseCells_next
    ((((s.setCursor 0 0).emit .invCursor).setRegion 0 (s.params.rows - 1)).setShort false) horigin hlast
  refine ⟨t, ht, hframe.trans ?_, fun r c => (hcells r c).trans (if_congr (and_congr_right fun hin => ?_) rfl rfl)⟩
  · have hevents := cellEvents_between (P := fun _ _ => true) horigin hlast fun r c _ _ => iff_of_true rfl (by omega)
    simp only [afterHook, if_true, Bool.false_eq_true, if_false]
    rw [List.append_nil, List.append_cons, hevents]
    rfl
  · obtain ⟨hr, hc⟩ : r < s.params.rows ∧ c < s.params.cols := (s.inGrid_iff r c).mp hin
    exact iff_of_true (by omega) rfl

/-- `ModeHook(delta)` (R224). Where OM is in the delta of SM, it is set. -/
theorem modeHook_next {d : StateWord} {s : State} (hs : RangeInv s)
    (hom : d.modes.om = true → s.word.modes.om = true) :
    ∃ t, modeHook d s = .next t ∧ t = afterHook d.modes.colm d.modes.om t.grid s ∧
      Erased (fun _ _ => d.modes.colm) s t := by
  obtain ⟨u, hu, hframe, herased⟩ : ∃ u, (if d.modes.colm then colmEffect s else .next s) = .next u ∧
      u = afterHook d.modes.colm false u.grid s ∧ Erased (fun _ _ => d.modes.colm) s u := by
    cases d.modes.colm with
    | true => exact colmEffect_next hs
    | false => exact ⟨s, rfl, by simp [afterHook], fun r c => by simp⟩
  rw [modeHook, hu, andThen_next]
  cases hd : d.modes.om with
  | false => exact ⟨u, rfl, hframe, herased⟩
  | true =>
    have huom : u.word.modes.om = true := by rw [hframe]; exact hom hd
    refine ⟨(u.setCursor u.scrollMin 0).emit .invCursor, ?_, ?_, herased⟩
    · simp only [omEffect, huom, if_true]
    · conv_lhs => rw [hframe]
      simp [afterHook, State.setCursor, State.emit, State.emitAll]

/-! ### SM (R220) -/

/-- A mode bit is in the delta of SM exactly if SM names it and it was 0. -/
theorem SmFrame.delta {ps : List Nat} {s m : State} (h : SmFrame ps s m) (b : ModeBit) :
    modeOf (StateWord.xor s.word m.word).modes b = (ps.contains (modeNumber b) && !modeOf s.word.modes b) := by
  obtain ⟨-, hmodes, -⟩ := h
  have hxor : modeOf (StateWord.xor s.word m.word).modes b = (modeOf s.word.modes b != modeOf m.word.modes b) := by
    cases b <;> rfl
  rw [hxor, hmodes b]
  cases modeOf s.word.modes b <;> simp

/-- A mode bit in the delta of SM is set after its parameters. -/
theorem SmFrame.set {ps : List Nat} {s m : State} (h : SmFrame ps s m) {b : ModeBit}
    (hb : (ps.contains (modeNumber b) && !modeOf s.word.modes b) = true) : modeOf m.word.modes b = true := by
  obtain ⟨-, hmodes, -⟩ := h
  rw [hmodes b, (Bool.and_eq_true_iff.mp hb).1, Bool.or_true]

theorem exec_sm (ps : List Nat) (s : State) : exec (.sm ps) s = thenCancel (sm ps s) := rfl

/-- Settles O54: the parameters of SM leave the bits that `SmFrame` states, and the hook runs on those that went from 0 to 1. -/
theorem setMode : Obligations.SetMode := by
  rintro s ps colm om hinv rfl rfl
  obtain ⟨m, hm, hrange⟩ := keeps_walk keeps_smParam ps s (.of_inv hinv)
  obtain ⟨u, hu, hframe⟩ := walk_sm_frame ps s
  obtain rfl := next_inj (hm.symm.trans hu)
  have hcolm : (StateWord.xor s.word m.word).modes.colm = (ps.contains 3 && !s.word.modes.colm) := hframe.delta .colm
  have hom : (StateWord.xor s.word m.word).modes.om = (ps.contains 6 && !s.word.modes.om) := hframe.delta .om
  obtain ⟨t, ht, htframe, herased⟩ := modeHook_next (d := StateWord.xor s.word m.word) hrange
    fun h => hframe.set (b := .om) (hom ▸ h)
  rw [hcolm, hom] at htframe
  rw [hcolm] at herased
  obtain ⟨hmframe, hmodes, -⟩ := hframe
  rw [hrange.curinvClear, ← hinv.curinvClear] at hmframe
  refine ⟨cancel t, ?_, fun b => ?_, ?_, fun r c => (herased r c).trans ?_⟩
  · rw [exec_sm, sm, walkModes, hm, andThen_next, ht, thenCancel_next]
  · rw [htframe]
    exact hmodes b
  · have htmodes : t.word.modes = m.word.modes := by rw [htframe]; rfl
    conv_lhs => rw [htframe, hmframe]
    rw [cancel_word, htmodes]
    rfl
  · rw [hmframe]
    rfl

/-! ### RM and the parameter instructions (R221 to R223, R227) -/

theorem exec_decodeSmParam_modeNumber (b : ModeBit) (s : State) :
    exec (decodeSmParam (modeNumber b)) s = .next (s.setMode b) := by
  cases b <;> rfl

/-- Settles O55: RM is `rm_eq`, and each listed value decodes to the row that sets its bit. -/
theorem resetModeAndParameters : Obligations.ResetModeAndParameters := by
  refine ⟨fun s ps => ?_, fun _ _ => ⟨rfl, rfl, rfl, rfl⟩, fun s e he => ?_, fun _ => decodeSmParam_of_notMem, rfl, rfl,
    fun _ h => if_neg h⟩
  · exact congrArg thenCancel (rm_eq ps s)
  · have hdecode : decodeSmParam (modeNumber e.2) = e.1 := by
      revert e
      decide
    exact ⟨hdecode, s.setMode e.2, hdecode ▸ exec_decodeSmParam_modeNumber e.2 s, rfl, modeOf_withMode s.word.modes e.2⟩

end Sys2Proof.Machine
end

section
/-! SUPPORT. The keyboard encoder (46_keyboard.md R240 to R250): the step on a key event is `KeyStep`, and what `KeyStep`
appends. -/

namespace Sys2Proof.Machine

/-! ### The step is `KeyStep` -/

theorem exec_decodePressed {k : KeyIdent} {m : Mods} {i : Instr} (hi : decodePressed k m = .ok i) (s : State) :
    isKnownKey k = true ∧ exec i s = .next (pressedKeyStep k s) := by
  cases k <;> cases hi <;> exact ⟨rfl, rfl⟩

theorem decodePressed_error {k : KeyIdent} {m : Mods} {e : DecodeError} (he : decodePressed k m = .error e) :
    isKnownKey k = false := by
  cases k <;> cases he
  rfl

theorem exec_decodeKey {ev : KeyEvent} {i : Instr} (hi : decodeKey ev = .ok i) (s : State) : exec i s = keyStep ev s := by
  unfold decodeKey at hi
  unfold keyStep
  split at hi
  · next hpressed =>
    obtain ⟨hknown, hexec⟩ := exec_decodePressed hi s
    rw [hexec, if_pos hknown, if_pos hpressed]
  · next hreleased =>
    split at hi <;> cases hi
    next hknown =>
      rw [if_pos hknown, if_neg hreleased]
      rfl

theorem decodeKey_error {ev : KeyEvent} {e : DecodeError} (he : decodeKey ev = .error e) : isKnownKey ev.key = false := by
  unfold decodeKey at he
  split at he
  · exact decodePressed_error he
  · split at he <;> cases he
    next hknown => exact eq_false_of_ne_true hknown

theorem step_eq_keyStep {s : State} {ev : KeyEvent} {rest : List HostCall} (hok : s.params.ok = true)
    (hcalls : s.calls = .key ev :: rest) : step s = keyStep ev (s.setCalls rest) := by
  match hi : decodeKey ev with
  | .ok i => exact (step_key hok hcalls hi).trans (exec_decodeKey hi _)
  | .error e =>
    rw [step, if_pos hok, hcalls, keyStep, decodeKey_error hi]
    simp [request, decode, hi]

/-! ### What a key event appends -/

@[simp] theorem State.outBytes_nil (s : State) : s.outBytes [] = s := by
  simp [State.outBytes]

section
variable {s u : State} (hanm : u.word.modes.anm = s.word.modes.anm) (hckm : u.word.modes.ckm = s.word.modes.ckm)
  (hmap : u.keymap = s.keymap)
include hanm hckm

theorem arrowSeq_congr (x : Byte) : arrowSeq x u = arrowSeq x s := by
  simp only [arrowSeq, hanm, hckm]

include hmap

/-- In two states that agree on ANM, CKM and the selected keymap a pressed key appends the same bytes (R250). -/
theorem pressedKeyStep_appends (k : KeyIdent) :
    ∃ bs, pressedKeyStep k s = s.outBytes bs ∧ pressedKeyStep k u = u.outBytes bs := by
  cases k with
  | null => exact ⟨[], s.outBytes_nil.symm, u.outBytes_nil.symm⟩
  | char b => exact ⟨[b], rfl, rfl⟩
  | up | down | right | left => exact ⟨arrowSeq _ s, rfl, congrArg u.outBytes (arrowSeq_congr hanm hckm _)⟩
  | _ => exact ⟨keyString _ s.keymap, rfl, congrArg (fun map => u.outBytes (keyString _ map)) hmap⟩

/-- So does a key event of R89, whatever its modifiers, and a released key appends nothing (R249). -/
theorem keyStep_appends {ev : KeyEvent} (hknown : isKnownKey ev.key = true) (m : Mods) :
    ∃ bs, keyStep ev s = .next (s.outBytes bs) ∧ keyStep { ev with mods := m } u = .next (u.outBytes bs) ∧
      (ev.pressed = false → bs = []) := by
  simp only [keyStep, hknown, if_true]
  cases ev.pressed with
  | false =>
    exact ⟨[], congrArg Host.Outcome.next s.outBytes_nil.symm, congrArg Host.Outcome.next u.outBytes_nil.symm,
      fun _ => rfl⟩
  | true =>
    obtain ⟨bs, hs, hu⟩ := pressedKeyStep_appends hanm hckm hmap ev.key
    exact ⟨bs, congrArg _ hs, congrArg _ hu, nofun⟩

end

theorem isKnownKey_of_keyStep {ev : KeyEvent} {s t : State} (h : keyStep ev s = .next t) : isKnownKey ev.key = true := by
  by_contra hknown
  rw [keyStep, if_neg hknown] at h
  cases h

/-- Settles O14: a key event decodes to the instruction of its branch of `KeyStep`, and each branch appends to `OUT`. -/
theorem stepIsKeyStep : Obligations.StepIsKeyStep := by
  intro s ev rest hok hcalls
  have hstep := step_eq_keyStep hok hcalls
  refine ⟨hstep, fun t ht => ?_⟩
  rw [hstep] at ht
  obtain ⟨bs, hbs, -⟩ := keyStep_appends (s := s.setCalls rest) rfl rfl rfl (isKnownKey_of_keyStep ht) ev.mods
  exact ⟨bs, next_inj (ht.symm.trans hbs)⟩

/-- Settles O58: both steps are `KeyStep`, which appends the same bytes in the two states. -/
theorem encoderReadsTwoModes : Obligations.EncoderReadsTwoModes := by
  intro s u ev m rest rest' hs hu hknown hcalls hcalls' hanm hckm hmap
  rw [step_eq_keyStep hs hcalls, step_eq_keyStep hu hcalls']
  exact keyStep_appends (s := s.setCalls rest) (u := u.setCalls rest') hanm hckm hmap hknown m

/-! ### The strings of the keys -/

/-- Settles O56: each arrow key is `ArrowSeq` of its letter, whose branch ANM and CKM select. -/
theorem characterAndArrowKeys : Obligations.CharacterAndArrowKeys := by
  refine ⟨fun _ _ _ _ => ⟨rfl, rfl, rfl⟩, fun s m e he => ?_⟩
  have harrow : exec e.1 s = .next (s.outBytes (arrowSeq e.2 s)) := by
    revert e
    simp only [List.forall_mem_cons]
    exact ⟨rfl, rfl, rfl, rfl, nofun⟩
  rw [harrow, arrowSeq]
  refine ⟨fun hanm => ?_, fun hanm hckm => ?_, fun hanm hckm => ?_⟩
  · simp [hanm, State.outBytes]
  · simp [hanm, hckm, State.outBytes]
  · simp [hanm, hckm, State.outBytes]

/-- What a profile-mapped key appends, by its entry in the selected keymap (R240, R248). -/
theorem exec_mappedKey {i : Instr} {k : KeyIdent} {s : State} {map : Keymap} {bs : List Byte} (hmap : s.keymap = map)
    (hexec : exec i s = .next (mappedKey k s)) (hbs : (map.lookup k).getD [] = bs) :
    exec i s = .next { s with out := s.out ++ bs } := by
  rw [hexec, mappedKey, keyString_eq, hmap, hbs]
  rfl

/-- A profile-mapped key with no entry appends nothing (R248). -/
theorem exec_mappedKey_none {i : Instr} {k : KeyIdent} {s : State} {map : Keymap} (hmap : s.keymap = map)
    (hexec : exec i s = .next (mappedKey k s)) (hnone : map.lookup k = none) : exec i s = .next s := by
  rw [exec_mappedKey hmap hexec (congrArg (·.getD []) hnone)]
  exact congrArg Host.Outcome.next s.outBytes_nil

/-- The strings of a legal instance's keymaps are non-empty (R248). -/
theorem keymap_lookup_ne_nil {s : State} {k : KeyIdent} {bs : List Byte} (hok : s.params.ok = true)
    (hentry : s.keymap.lookup k = some bs) : bs ≠ [] := by
  obtain ⟨-, -, -, hstrings⟩ := Params.ok_iff.mp hok
  obtain ⟨before, after, hsplit, -⟩ := List.lookup_eq_some_iff.mp hentry
  have hmem : (k, bs) ∈ s.keymap := by simp [hsplit]
  refine hstrings (k, bs) (List.mem_append.mpr ?_)
  rw [State.keymap] at hmem
  split at hmem
  · exact .inl hmem
  · exact .inr hmem

/-- Settles O57: each of the keys is `mappedKey` of its identifier, and the reference keymaps evaluate. -/
theorem mappedKeys : Obligations.MappedKeys := by
  refine ⟨fun s m map hmap => ?_, fun s k bs => keymap_lookup_ne_nil, fun s m hprofile hkeymap => ?_,
    fun s m hprofile hkeymap => ?_⟩
  · simp only [List.forall_mem_cons, List.not_mem_nil, false_imp_iff, implies_true, and_true]
    and_intros <;> exact exec_mappedKey hmap.symm rfl rfl
  · have hmap : s.keymap = keymapMinimalReference := by rw [State.keymap, hprofile]; exact hkeymap
    constructor
    · simp only [List.forall_mem_cons, List.not_mem_nil, false_imp_iff, implies_true, and_true]
      and_intros <;> exact exec_mappedKey hmap rfl rfl
    · simp only [List.forall_mem_cons, List.not_mem_nil, false_imp_iff, implies_true, and_true]
      and_intros <;> exact exec_mappedKey_none hmap rfl rfl
  · have hmap : s.keymap = keymapRichReference := by rw [State.keymap, hprofile]; exact hkeymap
    simp only [List.forall_mem_cons, List.not_mem_nil, false_imp_iff, implies_true, and_true]
    and_intros <;> exact exec_mappedKey hmap rfl rfl

end Sys2Proof.Machine
end

section
/-! SUPPORT. The obligations of 60_exceptions.md about the host's calls (R260, R265, R269): a lawful call is served, an unlawful
one ends the run. -/

namespace Sys2Proof.Machine

/-- Settles O12: a byte runs an instruction, and every instruction answers a next state in the ranges (`exec_keepsRanges`); a
known key appends to `OUT`; a profile is taken. -/
theorem lawfulCallsComplete : Obligations.LawfulCallsComplete := by
  intro s c rest hinv hcalls hlawful
  have hok := hinv.paramsOk
  cases c with
  | byte b =>
    obtain ⟨t, ht, -⟩ := exec_keepsRanges (fetchInstr b (s.setCalls rest)) _ (rangeInv_calls (RangeInv.of_inv hinv))
    exact ⟨t, (step_byte hok hcalls).trans ht, exec_calls ht⟩
  | key ev =>
    obtain ⟨bs, hbs, -⟩ := keyStep_appends (s := s.setCalls rest) rfl rfl rfl hlawful ev.mods
    exact ⟨_, (step_eq_keyStep hok hcalls).trans hbs, rfl⟩
  | selectProfile p => exact ⟨_, step_profile hok hcalls, rfl⟩
  | invalidBuffer | reentrant => cases hlawful

/-- A refused step is the last one of a run (log 4). -/
theorem run_refused {s : State} {r : Refusal} (n : Nat) (h : step s = .refused r) : core.run (n + 1) s = .refused r := by
  rw [core_run_succ, h]
  rfl

theorem step_invalidBuffer {s : State} {rest : List HostCall} (hok : s.params.ok = true)
    (hcalls : s.calls = .invalidBuffer :: rest) : step s = .refused .badBuffer := by
  rw [step, if_pos hok, hcalls]
  rfl

theorem step_reentrant {s : State} {rest : List HostCall} (hok : s.params.ok = true)
    (hcalls : s.calls = .reentrant :: rest) : step s = .refused .reentrant := by
  rw [step, if_pos hok, hcalls]
  rfl

theorem step_unknownKey {s : State} {ev : KeyEvent} {rest : List HostCall} (hok : s.params.ok = true)
    (hcalls : s.calls = .key ev :: rest) (hkey : isKnownKey ev.key = false) : step s = .refused .badKey := by
  rw [step_eq_keyStep hok hcalls, keyStep, if_neg (ne_true_of_eq_false hkey)]

theorem step_badParams {s : State} (hok : s.params.ok = false) : step s = .refused .badParams :=
  if_neg (ne_true_of_eq_false hok)

/-- Settles O3: each of the calls is refused by its step, and a refused step is the last one. -/
theorem hostRefusals : Obligations.HostRefusals :=
  ⟨fun _ _ n hok => ⟨fun hcalls => run_refused n (step_invalidBuffer hok hcalls),
      fun hcalls => run_refused n (step_reentrant hok hcalls),
      fun _ hkey hcalls => run_refused n (step_unknownKey hok hcalls hkey)⟩,
    fun _ _ hok => if_neg (ne_true_of_eq_false hok), fun _ n hok => run_refused n (step_badParams hok)⟩

end Sys2Proof.Machine
end

section
/-! SUPPORT. The bytes of one CSI sequence (41_escape.md R141; 40_parser_control.md R104): its body is appended below the bound, a
body that reaches the bound is dropped, and a final byte in time runs its verb. From it the obligations about overlong sequences
(60_exceptions.md R262) and about the restoring sequence (70_reset_and_hazards.md R281). -/

namespace Sys2Proof.Machine

/-! ### The body of a CSI sequence -/

theorem andThen_next_right (o : Out) : andThen o .next = o := by
  cases o <;> rfl

theorem byteSteps_singleton (b : Byte) (s : State) : byteSteps [b] s = byteStep b s :=
  andThen_next_right (byteStep b s)

/-- The bytes of a CSI body have no final-class byte (30_encoding.md R75). -/
abbrev CsiBody (body : List Byte) : Prop :=
  ∀ b ∈ body, isGraphic b = true ∧ isFinal b = false

theorem byteStep_introducer {s : State} (hok : s.params.ok = true) :
    byteStep 0x5B (s.setParser true []) = .next (s.setParser true [0x5B]) := by
  rw [← exec_fetchInstr, fetchInstr_of_esc (by decide) rfl]
  exact congrArg Host.Outcome.next (accumulate_first (s := s.setParser true []) 0x5B hok rfl)

theorem byteSteps_csi {s : State} (hok : s.params.ok = true) (text : List Byte) :
    byteSteps (0x1B :: 0x5B :: text) s = byteSteps text (s.setParser true [0x5B]) := by
  rw [byteSteps, byteStep_esc, andThen_next, byteSteps, byteStep_introducer hok, andThen_next]

/-- A body byte is appended. -/
theorem byteStep_csi_body {s : State} {b : Byte} {acc : List Byte} (hb : isGraphic b = true ∧ isFinal b = false) :
    byteStep b (s.setParser true (0x5B :: acc)) = .next (accumulate b (s.setParser true (0x5B :: acc))) := by
  obtain ⟨hgraphic, hfinal⟩ := hb
  have hfetch : fetchInstr b (s.setParser true (0x5B :: acc)) = .csi (some b) := by
    calc fetchInstr b (s.setParser true (0x5B :: acc)) = decodeSeq 0x5B (acc ++ [b]) := fetchInstr_of_esc hgraphic rfl
      _ = .csi (some b) := by rw [decodeSeq_csi, if_neg (ne_true_of_eq_false hfinal)]
  rw [← exec_fetchInstr, hfetch]
  exact if_neg (ne_true_of_eq_false hfinal)

/-- A body that stays below the bound is still in progress (30_encoding.md R77). -/
theorem byteSteps_csi_body (s : State) {body acc : List Byte} (hbody : CsiBody body)
    (hlen : acc.length + body.length + 1 < s.params.accCap) :
    byteSteps body (s.setParser true (0x5B :: acc)) = .next (s.setParser true (0x5B :: (acc ++ body))) := by
  induction body generalizing acc with
  | nil => rw [List.append_nil]; rfl
  | cons b rest ih =>
    obtain ⟨hb, hrest⟩ := List.forall_mem_cons.mp hbody
    rw [List.length_cons] at hlen
    have hstep : byteStep b (s.setParser true (0x5B :: acc)) = .next (s.setParser true (0x5B :: (acc ++ [b]))) := by
      rw [byteStep_csi_body hb, accumulate_of_lt]
      · rfl
      · simp only [State.setParser_acc, List.length_cons, State.setParser_params]
        omega
    have hlen' : (acc ++ [b]).length + rest.length + 1 < s.params.accCap := by
      rw [List.length_append, List.length_singleton]
      omega
    rw [byteSteps, hstep, andThen_next, ih hrest hlen', List.append_assoc, List.singleton_append]

/-- A body that reaches the bound is dropped with its last byte (R104). -/
theorem byteSteps_csi_overlong (s : State) {body : List Byte} (hbody : CsiBody body) (hok : s.params.ok = true)
    (hlen : body.length + 1 = s.params.accCap) :
    byteSteps body (s.setParser true [0x5B]) = .next (s.setParser false []) := by
  obtain ⟨-, -, hcap, -⟩ := Params.ok_iff.mp hok
  rcases List.eq_nil_or_concat' body with rfl | ⟨init, b, rfl⟩
  · rw [List.length_nil] at hlen
    omega
  obtain ⟨hinit, hlast⟩ := List.forall_mem_append.mp hbody
  have hb := hlast b (List.mem_singleton_self b)
  rw [List.length_append, List.length_singleton] at hlen
  have hopen : byteSteps init (s.setParser true [0x5B]) = .next (s.setParser true (0x5B :: init)) :=
    byteSteps_csi_body s (acc := []) hinit (by rw [List.length_nil]; omega)
  have hfull : (s.setParser true (0x5B :: init)).acc.length + 1 = (s.setParser true (0x5B :: init)).params.accCap := hlen
  have hdrop : byteStep b (s.setParser true (0x5B :: init)) = .next (s.setParser false []) := by
    rw [byteStep_csi_body hb, accumulate_of_full b rfl hfull]
    rfl
  rw [byteSteps_append, hopen, andThen_next, byteSteps_singleton, hdrop]

/-- Settles O28: the two lead bytes open the sequence; its body stays in progress below the bound, and at the bound the parser is
back where the invariant has it outside a sequence. -/
theorem overlongSequencesAreDropped : Obligations.OverlongSequencesAreDropped := by
  intro s body hinv hesc hbody
  have hok := hinv.paramsOk
  have hrun : core.run (body.length + 2) (s.setCalls (render (some (0x1B :: 0x5B :: body)))) =
      byteSteps body ((s.setCalls []).setParser true [0x5B]) :=
    (run_render (s := s.setCalls []) (0x1B :: 0x5B :: body) hok rfl).trans (byteSteps_csi (s := s.setCalls []) hok body)
  refine ⟨fun hlen => hrun.trans ?_, fun hlen => hrun.trans ?_⟩
  · have hnormal : (s.setCalls []).setParser false [] = s.setCalls [] := by
      rw [← hesc, ← hinv.accNormal hesc]
      rfl
    rw [byteSteps_csi_overlong (s.setCalls []) hbody hok hlen, hnormal]
    rfl
  · exact byteSteps_csi_body (s.setCalls []) (acc := []) hbody (by rw [List.length_nil, Nat.zero_add]; exact hlen)

/-! ### A completed CSI sequence -/

/-- The patch that replaces `ESC` and the accumulator of `s`. -/
def parserPatch (e : Bool) (l : List Byte) (s : State) : Patch :=
  { fe := fun _ => e, fa := fun _ => l, es := [], bs := [], cs := s.calls }

/-- A command reads neither `ESC` nor the accumulator, and `Cancel()` rewrites both. -/
theorem thenCancel_csiVerb_setParser (ps : List Nat) (v : Byte) (s : State) (e : Bool) (l : List Byte) :
    thenCancel (csiVerb ps v (s.setParser e l)) = thenCancel (csiVerb ps v s) := by
  have hparser : csiVerb ps v (s.setParser e l) = mapNext (parserPatch e l s).ap (csiVerb ps v s) :=
    csiVerb_ap (parserPatch e l s) s ps v
  have hsame : csiVerb ps v s = mapNext (streamPatch [] [] s.calls).ap (csiVerb ps v s) :=
    csiVerb_ap (streamPatch [] [] s.calls) s ps v
  rw [hparser]
  conv_rhs => rw [hsame]
  cases csiVerb ps v s <;> rfl

/-- A sequence whose final byte arrives in time runs the instruction of its verb, whatever the parser was doing before. -/
theorem byteSteps_csi_command {s : State} {body : List Byte} {v : Byte} (hok : s.params.ok = true) (hbody : CsiBody body)
    (hv : isFinal v = true) (hlen : body.length + 1 < s.params.accCap) :
    byteSteps (0x1B :: 0x5B :: (body ++ [v])) s = exec (decodeVerb (parseParams body) v) s := by
  have hopen : byteSteps body (s.setParser true [0x5B]) = .next (s.setParser true (0x5B :: body)) :=
    byteSteps_csi_body s (acc := []) hbody (by rw [List.length_nil]; omega)
  have hfinal : byteStep v (s.setParser true (0x5B :: body)) = exec (decodeVerb (parseParams body) v) s := by
    rw [← exec_fetchInstr, fetchInstr_csi_final hv rfl rfl, exec_decodeVerb, exec_decodeVerb, thenCancel_csiVerb_setParser]
  rw [byteSteps_csi hok, byteSteps_append, hopen, andThen_next, byteSteps_singleton, hfinal]

/-- The bytes of a command, given its body and its verb. -/
def csiText (e : List Byte × Byte) : List Byte :=
  0x1B :: 0x5B :: (e.1 ++ [e.2])

/-- The instruction of a command (30_encoding.md R80, R85). -/
def csiInstr (e : List Byte × Byte) : Instr :=
  decodeVerb (parseParams e.1) e.2

/-- Completed sequences one after another run their instructions one after another. -/
theorem byteSteps_commands {s : State} {cs : List (List Byte × Byte)} (hok : s.params.ok = true)
    (hcs : ∀ e ∈ cs, CsiBody e.1 ∧ isFinal e.2 = true ∧ e.1.length + 1 < s.params.accCap) :
    byteSteps (cs.flatMap csiText) s = runAll (cs.map csiInstr) s := by
  induction cs generalizing s with
  | nil => rfl
  | cons e cs ih =>
    obtain ⟨⟨hbody, hv, hlen⟩, hrest⟩ := List.forall_mem_cons.mp hcs
    have hfirst : byteSteps (csiText e) s = exec (csiInstr e) s := byteSteps_csi_command hok hbody hv hlen
    rw [List.flatMap_cons, byteSteps_append, hfirst, List.map_cons, runAll]
    cases hm : exec (csiInstr e) s with
    | fault r | refused r => rfl
    | next m =>
      have hparams : m.params = s.params := (exec_params_profile (decodeVerb_open _ _).1 hm).1
      exact ih (hparams ▸ hok) (hparams ▸ hrest)

/-! ### The restoring sequence (R281) -/

/-- The commands of the sequence: `0 m`, `r`, `2 J` and `H`. -/
def restoringCommands : List (List Byte × Byte) :=
  [([0x30], 0x6D), ([], 0x72), ([0x32], 0x4A), ([], 0x48)]

theorem restoringCommands_instrs : restoringCommands.map csiInstr = [.sgr [0], .decstbm [], .ed [2], .cup []] := rfl

/-- SI does not touch the parser, and each command begins its sequence anew. -/
theorem byteSteps_restoring {s : State} (hok : s.params.ok = true) (hcap : 3 ≤ s.params.accCap) :
    byteSteps (0x0F :: restoringCommands.flatMap csiText) s =
      runAll [.sgr [0], .decstbm [], .ed [2], .cup []] (s.setAltcs false) := by
  have hsi : byteStep 0x0F s = .next (s.setAltcs false) := by
    rw [← exec_fetchInstr, fetchInstr_control s (by decide) (by decide)]
    rfl
  have hlong : 2 < s.params.accCap := hcap
  have hshort : 1 < s.params.accCap := by omega
  rw [byteSteps, hsi, andThen_next, byteSteps_commands (s := s.setAltcs false) hok, restoringCommands_instrs]
  simp only [restoringCommands, List.forall_mem_cons]
  exact ⟨⟨by decide, rfl, hlong⟩, ⟨by decide, rfl, hshort⟩, ⟨by decide, rfl, hlong⟩, ⟨by decide, rfl, hshort⟩, nofun⟩

theorem exec_sgr_zero (s : State) : exec (.sgr [0]) s = .next (cancel (s.setCurAttr (normalAttr s.params))) := rfl

theorem exec_decstbm_nil (s : State) :
    exec (.decstbm []) s = .next (cancel ((s.setRegion 0 (s.params.rows - 1)).setShort false)) := by
  have hfull : takeRegion 0 (s.params.rows - 1) s = (s.setRegion 0 (s.params.rows - 1)).setShort false := by
    simp [takeRegion]
  exact congrArg (fun t => thenCancel (.next t)) hfull

/-- `CSI 2 J` erases every cell (43_csi.md R165). -/
theorem exec_ed_all {s : State} (hok : s.params.ok = true) :
    ∃ t, exec (.ed [2]) s = .next t ∧
      t = { s with grid := t.grid, sink := s.sink ++ s.cellEvents (fun _ _ => true),
                   word := { s.word with esc := false }, acc := [] } ∧
      Erased (fun _ _ => true) s t := by
  obtain ⟨hrows, hcols, -⟩ := Params.ok_iff.mp hok
  exact exec_eraseCells rfl ((s.inGrid_iff _ _).mpr ⟨hrows, hcols⟩) ((s.inGrid_iff _ _).mpr ⟨by omega, by omega⟩)
    fun r c _ _ => iff_of_true rfl (by omega)

theorem exec_cup_nil (s : State) : exec (.cup []) s = .next (cancel ((s.setCursor 0 0).emit .invCursor)) := by
  have hhome : cursorTo 0 0 s = (s.setCursor 0 0).emit .invCursor := by
    rw [cursorTo, clampTo_of_nonpos le_rfl, clampTo_of_nonpos le_rfl]
  exact congrArg (fun t => thenCancel (.next t)) hhome

/-- The state after `CSI 0 m CSI r`. -/
def attrAndRegionReset (s : State) : State :=
  cancel (((cancel (s.setCurAttr (normalAttr s.params))).setRegion 0 (s.params.rows - 1)).setShort false)

/-- `s` with the grid `g`, and what the four commands write beside it. -/
def restored (g : Memory) (s : State) : State :=
  { s with
    grid := g
    row := 0
    col := 0
    scrollMin := 0
    scrollMax := s.params.rows - 1
    curAttr := normalAttr s.params
    word := { s.word with esc := false, short := false }
    acc := []
    sink := s.sink ++ s.cellEvents (fun _ _ => true) ++ [.invCursor] }

/-- The grid is erased once SGR and DECSTBM have set the attribute and the region, and CUP then homes the cursor. -/
theorem runAll_restoring {s : State} (hok : s.params.ok = true) :
    ∃ g, runAll [.sgr [0], .decstbm [], .ed [2], .cup []] s = .next (restored g s) ∧
      ∀ r c, s.inGrid r c = true → (restored g s).cellAt r c = some { ch := 0x20, attr := normalAttr s.params } := by
  obtain ⟨u, hu, hframe, herased⟩ := exec_ed_all (s := attrAndRegionReset s) hok
  have hparams : (restored u.grid s).params = u.params := by rw [hframe]; rfl
  refine ⟨u.grid, ?_, fun r c hin => ?_⟩
  · calc runAll [.sgr [0], .decstbm [], .ed [2], .cup []] s
        = runAll [.ed [2], .cup []] (attrAndRegionReset s) := by
          rw [runAll, exec_sgr_zero, andThen_next, runAll, exec_decstbm_nil, andThen_next]
          rfl
      _ = .next (cancel ((u.setCursor 0 0).emit .invCursor)) := by
          rw [runAll, hu, andThen_next, runAll, exec_cup_nil]
          rfl
      _ = .next (restored u.grid s) := by
          conv_lhs => rw [hframe]
          rfl
  · calc (restored u.grid s).cellAt r c = u.cellAt r c := State.cellAt_congr hparams rfl r c
      _ = some { ch := 0x20, attr := normalAttr s.params } := (herased r c).trans (if_pos ⟨hin, rfl⟩)

/-- Settles O27: SI and the four commands of the sequence run from `s` with its calls taken, and leave what `restored` says. -/
theorem restoringSequence : Obligations.RestoringSequence := by
  intro s hinv hcap
  have hok := hinv.paramsOk
  obtain ⟨g, hg, hcells⟩ := runAll_restoring (s := (s.setCalls []).setAltcs false) hok
  have hrun := run_render (s := s.setCalls []) (0x0F :: restoringCommands.flatMap csiText) hok rfl
  have hlength : (0x0F :: restoringCommands.flatMap csiText).length = 15 := rfl
  rw [byteSteps_restoring (s := s.setCalls []) hok hcap, hg, hlength] at hrun
  exact ⟨_, hrun, rfl, rfl, rfl, rfl, rfl, hcells, rfl, rfl, rfl, rfl, rfl, rfl, rfl, rfl, rfl⟩

end Sys2Proof.Machine
end

section
/-! SUPPORT. The obligation about one-way modes (70_reset_and_hazards.md R294): an effect only sets mode bits, and the hook of SM
runs its side effects on the bits that went from 0 to 1 (45_modes.md R224). -/

namespace Sys2Proof.Machine

/-! ### No step clears a mode bit -/

theorem Effect.modesKept {s m : State} {i : Instr} (h : Effect s i m) : modesKept s.word.modes m.word.modes := by
  intro b hb
  rcases h.mode_or b with hsame | ⟨hset, -⟩
  · exact hsame.trans hb
  · exact hset

theorem exec_modesKept {i : Instr} {s t : State} (hi : CsiOperandOpen i) (h : exec i s = .next t) :
    modesKept s.word.modes t.word.modes := by
  obtain ⟨m, he, hp⟩ := exec_effect s i hi t h
  rw [hp.frame]
  exact he.modesKept

theorem step_modesKept {s t : State} (h : step s = .next t) : modesKept s.word.modes t.word.modes := by
  cases step_case h with
  | idle | profile => exact fun _ hb => hb
  | @byte b rest _ _ hexec => exact exec_modesKept (s := s.setCalls rest) (decodeAny_open _) hexec
  | @key ev rest i _ _ hi hexec =>
    exact exec_modesKept (s := s.setCalls rest) (isKeyInstr_open (isKeyInstr_of_decodeKey hi)).1 hexec

/-! ### The side effects of SM -/

theorem modeHook_of_colm_clear {d : StateWord} (s : State) (h : d.modes.colm = false) :
    modeHook d s = if d.modes.om then omEffect s else .next s := by
  rw [modeHook, h]
  rfl

theorem modeHook_of_om_clear {d : StateWord} (s : State) (hcolm : d.modes.colm = true) (hom : d.modes.om = false) :
    modeHook d s = colmEffect s := by
  rw [modeHook, hcolm, hom]
  exact andThen_next_right (colmEffect s)

/-- The COLM side effect reports the cursor, and then every cell (45_modes.md R225). -/
theorem colmEffect_sink {s t : State} (h : colmEffect s = .next t) :
    t.sink = s.sink ++ .invCursor :: s.cellEvents (fun _ _ => true) := by
  obtain ⟨horigin, hlast⟩ := eraseCells_inv h
  obtain ⟨u, hu, hframe, -⟩ := eraseCells_next _ horigin hlast
  obtain rfl := next_inj (h.symm.trans hu)
  rw [List.append_cons, cellEvents_between (s := s) horigin hlast fun r c _ _ => iff_of_true rfl (by omega), hframe]
  rfl

/-- A mode bit that is set is not in the delta of SM. -/
theorem SmFrame.delta_of_set {ps : List Nat} {s m : State} (h : SmFrame ps s m) {b : ModeBit}
    (hb : modeOf s.word.modes b = true) : modeOf (StateWord.xor s.word m.word).modes b = false := by
  rw [h.delta, hb, Bool.not_true, Bool.and_false]

section
variable {ps : List Nat} {s t : State} (h : sm ps s = .next t)
include h

/-- An SM that finds COLM set leaves the grid and the region. -/
theorem sm_of_colm_set (hcolm : s.word.modes.colm = true) :
    t.grid = s.grid ∧ t.scrollMin = s.scrollMin ∧ t.scrollMax = s.scrollMax ∧ t.word.short = s.word.short := by
  obtain ⟨m, hm, ht⟩ := sm_inv h
  rw [modeHook_of_colm_clear m (hm.delta_of_set (b := .colm) hcolm)] at ht
  have hkept : t.grid = m.grid ∧ t.scrollMin = m.scrollMin ∧ t.scrollMax = m.scrollMax ∧ t.word.short = m.word.short := by
    split at ht <;> obtain rfl := next_inj ht <;> exact ⟨rfl, rfl, rfl, rfl⟩
  rw [hm.1] at hkept
  exact hkept

/-- COLM is in the delta exactly if it changes. -/
theorem sm_delta_colm : ∃ m, SmFrame ps s m ∧ modeHook (StateWord.xor s.word m.word) m = .next t ∧
    (StateWord.xor s.word m.word).modes.colm = (s.word.modes.colm != t.word.modes.colm) := by
  obtain ⟨m, hm, ht⟩ := sm_inv h
  refine ⟨m, hm, ht, ?_⟩
  rw [(modeHook_effect ht).frame]
  rfl

/-- An SM that finds OM set and leaves COLM does nothing but write its bits. -/
theorem sm_of_om_set (hom : s.word.modes.om = true) (hcolm : t.word.modes.colm = s.word.modes.colm) :
    SmFrame ps s t := by
  obtain ⟨m, hm, ht, hdelta⟩ := sm_delta_colm h
  rw [hcolm, bne_self_eq_false] at hdelta
  rw [modeHook_none hdelta (hm.delta_of_set (b := .om) hom)] at ht
  exact next_inj ht ▸ hm

/-- An SM that finds OM set and sets COLM has the COLM side effect only. -/
theorem sm_of_om_set_colm (hom : s.word.modes.om = true) (hcolm : t.word.modes.colm ≠ s.word.modes.colm) :
    t.row = 0 ∧ t.col = 0 ∧ t.sink = s.sink ++ .invCursor :: s.cellEvents (fun _ _ => true) := by
  obtain ⟨m, hm, ht, hdelta⟩ := sm_delta_colm h
  rw [bne_iff_ne.mpr hcolm.symm] at hdelta
  rw [modeHook_of_om_clear m hdelta (hm.delta_of_set (b := .om) hom)] at ht
  have hsink := colmEffect_sink ht
  rw [hm.1] at hsink
  rw [colmEffect_frame ht]
  exact ⟨rfl, rfl, hsink⟩

/-- An SM that finds both set writes its bits only. -/
theorem sm_of_both_set (hcolm : s.word.modes.colm = true) (hom : s.word.modes.om = true) : SmFrame ps s t := by
  obtain ⟨m, hm, ht⟩ := sm_inv h
  rw [modeHook_none (hm.delta_of_set (b := .colm) hcolm) (hm.delta_of_set (b := .om) hom)] at ht
  exact next_inj ht ▸ hm

end

/-- Settles O17: no effect clears a mode bit; a bit that SM finds set is not in the delta of its hook, so the hook's part for it
does not run. -/
theorem oneWayModes : Obligations.OneWayModes := by
  refine ⟨fun s t => step_modesKept, fun s t ps h => ?_⟩
  obtain ⟨m, hm, rfl⟩ := thenCancel_eq_next.mp h
  refine ⟨sm_of_colm_set (t := m) hm, fun hom hcolm => ?_, sm_of_om_set_colm (t := m) hm, fun hcolm hom => ?_⟩
  · obtain ⟨hframe, -⟩ := sm_of_om_set hm hom hcolm
    rw [hframe]
    exact ⟨rfl, rfl, rfl⟩
  · obtain ⟨hframe, -, hcurinv⟩ := sm_of_both_set hm hcolm hom
    conv_lhs => rw [hframe, hcurinv]
    rfl

end Sys2Proof.Machine
end
